-- ==== Sys2Proof/Word.lean ====
section
/-! DEFINITION. The word types of the frame codec: a byte and a 16-bit field (00_scope.md R8). -/

namespace Sys2Proof

/-- A byte of a frame, of a stream, or an 8-bit register (R8). -/
abbrev Byte := BitVec 8

/-- A 16-bit value: a parameter, a checksum, a 16-bit register (R8). -/
abbrev Half := BitVec 16

end Sys2Proof
end

