-- ==== Sys2Proof/Syntax.lean ====
section
/-! DEFINITION. The operations of the hardware as syntax: the six codec operations (30_encoding.md R58) and the
command layer's operations (R63), one constructor per mnemonic of spec/opcode_table.json. The spec gives operations
no binary encoding: "a model represents an operation as a constructor with the operands listed" (R58, D2). -/

namespace Sys2Proof

/-- The four cached device-state registers: the operand `r` of CLR, RD and QUERY (10_state.md R13 to R16). -/
inductive CacheReg where
  | status
  | volume
  | numtracks
  | curtrack
  deriving DecidableEq, Repr

/-- The six EQ presets of SETEQ (42_commands.md R107). -/
inductive EqPreset where
  | normal
  | pop
  | rock
  | jazz
  | classic
  | bass
  deriving DecidableEq, Repr

/-- The four playback modes of SETMODE (42_commands.md R108). -/
inductive PlayMode where
  | singlePlay
  | folderRepeat
  | singleRepeat
  | random
  deriving DecidableEq, Repr

/-- A REPLY frame, exactly ten bytes, byte 0 first, with the field names of 30_encoding.md R53. It is also the operand
of VAL and DEC, so another length cannot be passed (R86, D21). Any bytes may stand in it: whether it is well formed is
what VAL decides. -/
structure Reply where
  start : Byte
  version : Byte
  length : Byte
  command : Byte
  feedback : Byte
  dataHi : Byte
  dataLo : Byte
  ckHi : Byte
  ckLo : Byte
  stop : Byte
  deriving DecidableEq, Repr

/-- The ten bytes of a reply in arrival order (20_memory.md R35). -/
def Reply.bytes (f : Reply) : List Byte :=
  [f.start, f.version, f.length, f.command, f.feedback, f.dataHi, f.dataLo, f.ckHi, f.ckLo, f.stop]

/-- The operations, in the order of spec/opcode_table.json. -/
inductive Instr where
  /-- `ENC cmd, param` (R70). -/
  | enc (cmd : Byte) (param : Half)
  /-- `NEXT` (R101). -/
  | next
  /-- `PREV` (R102). -/
  | prev
  /-- `PLAY track` (R103). -/
  | play (track : Half)
  /-- `VOLUP` (R104). -/
  | volup
  /-- `VOLDN` (R105). -/
  | voldn
  /-- `SETVOL v` (R106). -/
  | setvol (v : Byte)
  /-- `SETEQ preset` (R107). -/
  | seteq (preset : EqPreset)
  /-- `SETMODE mode` (R108). -/
  | setmode (mode : PlayMode)
  /-- `RESUME` (R109). -/
  | resume
  /-- `PAUSE` (R110). -/
  | pause
  /-- `QSTATUS` (R121). -/
  | qstatus
  /-- `QVOL` (R122). -/
  | qvol
  /-- `QNUM` (R123). -/
  | qnum
  /-- `QTRACK` (R124). -/
  | qtrack
  /-- `VAL f` (R85). -/
  | val (f : Reply)
  /-- `DEC f` (R88): one operation, the six DEC rows of the table are its cases (R60). -/
  | dec (f : Reply)
  /-- `SETCK en` (R76). -/
  | setck (en : Bool)
  /-- `CLR r` (R92). -/
  | clr (r : CacheReg)
  /-- `RD r` (R93). -/
  | rd (r : CacheReg)
  /-- `SEND cmd, param` (R100). -/
  | send (cmd : Byte) (param : Half)
  /-- `SETMAXVOL v` (R111). -/
  | setmaxvol (v : Byte)
  /-- `QUERY q, r` (R120). -/
  | query (q : Byte) (r : CacheReg)
  /-- `GETSTATUS` (R125). -/
  | getstatus
  /-- `GETVOL` (R125). -/
  | getvol
  /-- `GETNUM` (R125). -/
  | getnum
  /-- `GETTRACK` (R125). -/
  | gettrack
  deriving DecidableEq, Repr

end Sys2Proof
end

