-- ==== Sys2Proof/Config.lean ====
section
/-! DEFINITION. What the spec leaves open as parameters of the model (00_scope.md R7): uninterpreted constants, so that
no proof can rest on a value of them. CKEN_SHARED and CACHE_SHARED concern several block instances, which the spec does
not describe (R7, R22); they have no counterpart here (assumption log 16). -/

namespace Sys2Proof

/-- `EQ_CODE` before its zero extension: the wire value of each EQ preset. OPEN (R7, R107, D9): the customary 0 to 5 must
not be built in (assumption log 7). A byte, because R54 has an EQ code zero-extended into the parameter. -/
opaque Config.eqCode : EqPreset → Byte

/-- `MODE_CODE(SingleRepeat)` before its zero extension (R54). OPEN (R7, R108, D10; assumption log 8). -/
opaque Config.singleRepeatCode : Byte

/-- `MODE_CODE(Random)` before its zero extension (R54). OPEN (R7, R108, D10; assumption log 8). -/
opaque Config.randomCode : Byte

/-- `CACHE_RESET` of STATUS: any 8-bit value (R7, R155, D13; assumption log 5). -/
opaque Config.statusReset : Byte

/-- `CACHE_RESET` of VOLUME: any 8-bit value (R7, R155, D13; assumption log 5). -/
opaque Config.volumeReset : Byte

/-- `CACHE_RESET` of NUMTRACKS: any 16-bit value (R7, R155, D13; assumption log 5). -/
opaque Config.numtracksReset : Half

/-- `CACHE_RESET` of CURTRACK: any 16-bit value (R7, R155, D13; assumption log 5). -/
opaque Config.curtrackReset : Half

end Sys2Proof
end

