-- ==== Sys2Proof/WellFormed.lean ====
section
/-! DEFINITION. Which operations are well formed. Operand widths, the ten bytes of a frame operand and the names of
registers, presets and modes are fixed by the types of Syntax.lean (30_encoding.md R58, D7, D21). One condition is
left: the register of a QUERY is "the cached register that belongs to" its query opcode (43_queries.md R120). -/

namespace Sys2Proof

/-- The query opcode each cached register belongs to (43_queries.md R121 to R124). -/
def CacheReg.queryOpcode : CacheReg → Byte
  | .status => 0x42
  | .volume => 0x43
  | .numtracks => 0x47
  | .curtrack => 0x4C

/-- The well-formedness check. It classifies; it refuses nothing at run time: R120's pseudocode gives every
`QUERY q, r` its effect, and the machine runs that (assumption log 18). -/
def Instr.wf : Instr → Bool
  | .query q r => q == r.queryOpcode
  | .enc _ _ | .next | .prev | .play _ | .volup | .voldn | .setvol _ | .seteq _ | .setmode _ | .resume | .pause
  | .qstatus | .qvol | .qnum | .qtrack | .val _ | .dec _ | .setck _ | .clr _ | .rd _ | .send _ _ | .setmaxvol _
  | .getstatus | .getvol | .getnum | .gettrack => true

end Sys2Proof
end

