-- ==== Sys2Proof/Decode.lean ====
section
/-! DEFINITION. The frame formats of 30_encoding.md, a decoder from frame bytes to operations, and after it an encoder.
Operations themselves have no binary encoding (R58, D2); what opcode_table.json gives as bit patterns are the frames
the operations send (FULL, SHORT) or examine (REPLY). The block never decodes an outgoing frame: the decoder says
which row of the table a frame belongs to (R64), and the machine's step does not use it. -/

namespace Sys2Proof

/-! ## Constants (00_scope.md R6) -/

/-- START, byte 0 of every frame. -/
@[simp] def startByte : Byte := 0x7E
/-- VERSION, byte 1 of every outgoing frame. -/
@[simp] def versionByte : Byte := 0xFF
/-- LENGTH, byte 2 of every frame; not adjusted for the short frame (R52). -/
@[simp] def lengthByte : Byte := 0x06
/-- FEEDBACK, byte 4 of every outgoing frame. -/
@[simp] def feedbackByte : Byte := 0x00
/-- END, byte 9 of a full frame and byte 7 of a short one. -/
@[simp] def endByte : Byte := 0xEF
/-- VOL_LIMIT, the absolute volume ceiling. -/
@[simp] def volLimit : Byte := 30

/-! ## The wire-command opcodes (30_encoding.md R56) -/

/-- Next. -/
@[simp] def opNext : Byte := 0x01
/-- Previous. -/
@[simp] def opPrev : Byte := 0x02
/-- Play(track). -/
@[simp] def opPlay : Byte := 0x03
/-- Vol+. -/
@[simp] def opVolUp : Byte := 0x04
/-- Vol-. -/
@[simp] def opVolDn : Byte := 0x05
/-- Set Volume. -/
@[simp] def opSetVol : Byte := 0x06
/-- Set EQ. -/
@[simp] def opSetEq : Byte := 0x07
/-- Set Mode. -/
@[simp] def opSetMode : Byte := 0x08
/-- Resume. -/
@[simp] def opResume : Byte := 0x0D
/-- Pause. -/
@[simp] def opPause : Byte := 0x0E
/-- Query Status. -/
@[simp] def opQStatus : Byte := 0x42
/-- Query Volume. -/
@[simp] def opQVol : Byte := 0x43
/-- Query Num Tracks. -/
@[simp] def opQNum : Byte := 0x47
/-- Query Track ID. -/
@[simp] def opQTrack : Byte := 0x4C

/-! ## Fields (R8, R34, R54, R57) -/

/-- `v[15:8]`. -/
def hiByte (v : Half) : Byte := v.extractLsb' 8 8

/-- `v[7:0]`. -/
def loByte (v : Half) : Byte := v.extractLsb' 0 8

/-- `(h << 8) | l`: the 16-bit value whose bits 15:8 are `h` and bits 7:0 are `l` (R9, R57). -/
def joinBytes (h l : Byte) : Half := (h.setWidth 16 <<< 8) ||| l.setWidth 16

/-- `EQ_CODE`: the open code of the preset, zero-extended to 16 bits (R54, R107). -/
def eqCode (e : EqPreset) : Half := (Config.eqCode e).setWidth 16

/-- `MODE_CODE`: SinglePlay and FolderRepeat collide on 0x0001 (R108); the other two are open codes, zero-extended
(R54). -/
def modeCode : PlayMode → Half
  | .singlePlay => 0x0001
  | .folderRepeat => 0x0001
  | .singleRepeat => Config.singleRepeatCode.setWidth 16
  | .random => Config.randomCode.setWidth 16

/-- The ten bytes as a reply, when the list has exactly ten (R53). -/
def Reply.ofBytes? : List Byte → Option Reply
  | [b0, b1, b2, b3, b4, b5, b6, b7, b8, b9] => some ⟨b0, b1, b2, b3, b4, b5, b6, b7, b8, b9⟩
  | _ => none

/-! ## The decoder -/

/-- Where a frame is presented. FULL and SHORT frames travel on the wire to the device; a REPLY frame is an operand of
VAL or of DEC. The bits do not say which: `7E FF 06 4C 00 00 00 FE AF EF` is both the QTRACK query and a reply
(95_test_vectors.md 2.8), and VAL and DEC share one format (R53). -/
inductive Port where
  | wire
  | val
  | dec
  deriving DecidableEq, Repr

/-- Why bytes are not the frame of any operation at a port. -/
inductive DecodeError where
  /-- A wire frame has 8 or 10 bytes (R50); an operand of VAL or DEC has 10 (R86). -/
  | wrongLength (n : Nat)
  /-- A constant byte of the template is wrong (R51, R52; `W AND mask = match` fails for every row, R64). -/
  | notOutgoing
  deriving DecidableEq, Repr

/-- The first preset, in the order of R107, whose wire value is `p`. -/
def eqPresetOf (p : Half) : Option EqPreset :=
  [EqPreset.normal, .pop, .rock, .jazz, .classic, .bass].find? fun e => eqCode e == p

/-- The first mode, in the order of R108, whose wire value is `p`; SinglePlay for the colliding 0x0001. -/
def playModeOf (p : Half) : Option PlayMode :=
  [PlayMode.singlePlay, .folderRepeat, .singleRepeat, .random].find? fun m => modeCode m == p

/-- The operation a COMMAND and a PARAMETER stand for on the wire: the table's row for the command when the parameter
is one the row's pattern admits (R56, R64), else the ENC row, which admits every pair (R59). -/
def decodeCommand (c : Byte) (p : Half) : Instr :=
  if c = opPlay then .play p
  else if c = opSetVol ∧ p ≤ volLimit.setWidth 16 then .setvol (loByte p)
  else if c = opSetEq then
    match eqPresetOf p with
    | some e => .seteq e
    | none => .enc c p
  else if c = opSetMode then
    match playModeOf p with
    | some m => .setmode m
    | none => .enc c p
  else if p ≠ 0 then .enc c p
  else if c = opNext then .next
  else if c = opPrev then .prev
  else if c = opVolUp then .volup
  else if c = opVolDn then .voldn
  else if c = opResume then .resume
  else if c = opPause then .pause
  else if c = opQStatus then .qstatus
  else if c = opQVol then .qvol
  else if c = opQNum then .qnum
  else if c = opQTrack then .qtrack
  else .enc c p

/-- `W AND mask = match` for the constant bytes of the ENC row (R64): START, VERSION, LENGTH, FEEDBACK, END. -/
def templateOk (b0 b1 b2 b4 e : Byte) : Bool :=
  b0 == startByte && b1 == versionByte && b2 == lengthByte && b4 == feedbackByte && e == endByte

/-- A frame on the wire, FULL or SHORT. The checksum bytes lie outside every mask of R64 and do not select a row. -/
def decodeWire : List Byte → Except DecodeError Instr
  | [b0, b1, b2, c, b4, h, l, e] =>
    if templateOk b0 b1 b2 b4 e then .ok (decodeCommand c (joinBytes h l)) else .error .notOutgoing
  | [b0, b1, b2, c, b4, h, l, _, _, e] =>
    if templateOk b0 b1 b2 b4 e then .ok (decodeCommand c (joinBytes h l)) else .error .notOutgoing
  | bs => .error (.wrongLength bs.length)

/-- The operation that the bytes stand for at a port; total, rejecting by name. -/
def decode (p : Port) (bs : List Byte) : Except DecodeError Instr :=
  match p with
  | .wire => decodeWire bs
  | .val =>
    match Reply.ofBytes? bs with
    | some f => .ok (.val f)
    | none => .error (.wrongLength bs.length)
  | .dec =>
    match Reply.ofBytes? bs with
    | some f => .ok (.dec f)
    | none => .error (.wrongLength bs.length)

/-! ## The encoder -/

/-- The checksum of R71 (16-bit negated sum of bytes 1 to 6 of the frame). -/
def frameChecksum (c : Byte) (p : Half) : Half :=
  - (versionByte.setWidth 16 + lengthByte.setWidth 16 + c.setWidth 16 + feedbackByte.setWidth 16
      + (hiByte p).setWidth 16 + (loByte p).setWidth 16)

/-- Format FULL, byte by byte (R51, R55). -/
def fullFrame (c : Byte) (p : Half) : List Byte :=
  [startByte, versionByte, lengthByte, c, feedbackByte, hiByte p, loByte p,
   hiByte (frameChecksum c p), loByte (frameChecksum c p), endByte]

/-- Format SHORT, byte by byte (R52). -/
def shortFrame (c : Byte) (p : Half) : List Byte :=
  [startByte, versionByte, lengthByte, c, feedbackByte, hiByte p, loByte p, endByte]

/-- The outgoing frame of a command and a parameter: FULL when CKEN = 1, SHORT when CKEN = 0 (R61). -/
def wireFrame (cken : Bool) (c : Byte) (p : Half) : List Byte :=
  if cken then fullFrame c p else shortFrame c p

/-- The COMMAND and PARAMETER an operation puts on the wire by its row of R56, with `maxvol` the ceiling that clamps a
volume (R106); `none` for the operations whose row carries no frame. -/
def Instr.wireFields (maxvol : Byte) : Instr → Option (Byte × Half)
  | .enc c p => some (c, p)
  | .next => some (opNext, 0)
  | .prev => some (opPrev, 0)
  | .play t => some (opPlay, t)
  | .volup => some (opVolUp, 0)
  | .voldn => some (opVolDn, 0)
  | .setvol v => some (opSetVol, (if v ≤ maxvol then v else maxvol).setWidth 16)
  | .seteq e => some (opSetEq, eqCode e)
  | .setmode m => some (opSetMode, modeCode m)
  | .resume => some (opResume, 0)
  | .pause => some (opPause, 0)
  | .qstatus => some (opQStatus, 0)
  | .qvol => some (opQVol, 0)
  | .qnum => some (opQNum, 0)
  | .qtrack => some (opQTrack, 0)
  | .val _ | .dec _ | .setck _ | .clr _ | .rd _ | .send _ _ | .setmaxvol _ | .query _ _
  | .getstatus | .getvol | .getnum | .gettrack => none

/-- The port at which an operation's frame stands. -/
def Instr.port : Instr → Port
  | .val _ => .val
  | .dec _ => .dec
  | _ => .wire

/-- The frame that opcode_table.json gives an operation's row; `none` where the row says `none` (R64). -/
def encode (cken : Bool) (maxvol : Byte) (i : Instr) : Option (List Byte) :=
  match i with
  | .val f => some f.bytes
  | .dec f => some f.bytes
  | i => (i.wireFields maxvol).map fun cp => wireFrame cken cp.1 cp.2

/-! ## The table's words -/

/-- The `n` bytes of a number, byte 0 the most significant: byte `i` of an 80-bit word is bits `79-8i` down to `72-8i`
(R51, R52, R64). -/
def bytesOfWord : Nat → Nat → List Byte
  | 0, _ => []
  | n + 1, w => BitVec.ofNat 8 (w / 2 ^ (8 * n)) :: bytesOfWord n w

/-- The port of a table word, by the most specific row whose mask selects it (R64): an outgoing row, else a DEC row with
its COMMAND, else the VAL row, else the DEC row for malformed frames (assumption log 11). -/
def tablePort : List Byte → Port
  | [b0, b1, b2, c, b4, _, _, _, _, e] =>
    if templateOk b0 b1 b2 b4 e then .wire
    else if b0 == startByte && b2 == lengthByte && e == endByte then
      if c == opQStatus || c == opQVol || c == opQNum || c == opQTrack then .dec else .val
    else .dec
  | _ => .wire

/-- The instruction the decoder reads from a table word of `nbits` bits, numbered as the table numbers them: an 80-bit
word is a FULL or REPLY frame, a 64-bit word a SHORT frame (R64). -/
def decodeTableWord (nbits w : Nat) : Option Instr :=
  if nbits = 80 then (decode (tablePort (bytesOfWord 10 w)) (bytesOfWord 10 w)).toOption
  else if nbits = 64 then (decode .wire (bytesOfWord 8 w)).toOption
  else none

end Sys2Proof
end

