-- ==== Sys2Proof/Machine/Flags.lean ====
section
/-! DEFINITION. The only indicator an operation computes: `ok`, the structural check of a reply (41_validator_decoder.md
R85). The block has no condition codes and no sticky status flags (10_state.md R19); CKEN, its one flag, is written by
SETCK alone (R76). -/

namespace Sys2Proof.Machine

/-- `ok <- (F[0] = 0x7E) and (F[2] = 0x06) and (F[9] = 0xEF)` (R85). Bytes 1 and 3 to 8 have no influence (R86). -/
def replyOk (f : Reply) : Bool :=
  f.start == startByte && f.length == lengthByte && f.stop == endByte

end Sys2Proof.Machine
end

