-- ==== Sys2Proof/Machine/Operands.lean ====
section
/-! DEFINITION. Operand forms of the command layer: zero extension of a narrow operand (30_encoding.md R54) and the
clamping policy (42_commands.md R114). The split of a 16-bit operand and the join of two bytes are `hiByte`, `loByte`
and `joinBytes` of Decode.lean; the mode codes are `modeCode` there, the EQ codes `eqCode`. -/

namespace Sys2Proof.Machine

/-- `min(a, b)` of two unsigned bytes (00_scope.md R9). -/
def minByte (a b : Byte) : Byte := if a ≤ b then a else b

/-- `zext_16(v)` (R9, R54). -/
def zext16 (v : Byte) : Half := v.setWidth 16

/-- The volume SETVOL sends: `min(v, MAXVOL)`, silent (R106, R114). -/
def clampVolume (maxvol v : Byte) : Byte := minByte v maxvol

/-- The ceiling SETMAXVOL stores: `min(v, 30)`, silent, no lower clamp (R111, R114, D14). -/
def clampCeiling (v : Byte) : Byte := minByte v volLimit

end Sys2Proof.Machine
end

