-- ==== Sys2Proof/Machine/State.lean ====
section
/-! DEFINITION. The state of the machine as plain data (10_state.md R18 and R23), the ways a step can stop, and the
state after reset (70_reset_and_hazards.md R155). There is no memory field: the block has no addressable memory
(R24). There is no program counter and no exception register: the block has neither (R11, R137). -/

namespace Sys2Proof.Machine

/-- The results of an operation on the host interface (30_encoding.md R58). Results are not registers: no operation
reads them (R19; assumption log 2). -/
inductive Result where
  /-- No result: the operation returns none, or has not returned yet. -/
  | none
  /-- ENC: `len` and `bytes`. -/
  | frame (len : Nat) (bytes : List Byte)
  /-- VAL, DEC and QUERY: `ok`. -/
  | ok (ok : Bool)
  /-- RD and accessors of STATUS and VOLUME. -/
  | byte (v : Byte)
  /-- RD and accessors of NUMTRACKS and CURTRACK. -/
  | half (v : Half)
  deriving DecidableEq, Repr

/-- What an operation that waits in `RxRead(10)` has left to do once ten bytes are there (20_memory.md R32, 43_queries.md
R120 step 3; assumption log 3). -/
inductive Await where
  /-- QUERY and the four queries, with the register they have cleared: decode and return `ok` (R120). -/
  | query (r : CacheReg)
  /-- An accessor: decode and return the register (R125). -/
  | accessor (r : CacheReg)
  /-- SETMAXVOL: decode and, when the ceiling is below the volume, send it (R111). -/
  | setMaxVol
  deriving DecidableEq, Repr

/-- The machine's state. -/
structure State where
  /-- CKEN, the checksum-enable flag (R12). -/
  cken : Bool
  /-- STATUS (R13). -/
  status : Byte
  /-- VOLUME (R14). -/
  volume : Byte
  /-- CURTRACK (R15). -/
  curtrack : Half
  /-- NUMTRACKS (R16). -/
  numtracks : Half
  /-- MAXVOL, the volume ceiling (R17). -/
  maxvol : Byte
  /-- TX: every byte handed to the transport so far, in order (R23). -/
  tx : List Byte
  /-- RX: bytes arrived and not yet taken, in arrival order (R23). -/
  rx : List Byte
  /-- The operation in flight that waits in `RxRead`, if any (R159). -/
  waiting : Option Await
  /-- The results of the last operation, as the host sees them (R58). -/
  result : Result
  /-- The operations the host will issue, first to last (R11; assumption log 1). -/
  ops : List Instr
  /-- The device oracle: what arrives before each step, one chunk a step (R32; assumption log 4). -/
  arrivals : List (List Byte)
  deriving DecidableEq, Repr

/-- The faults that stop the machine: none. "A failure is a returned value, not a trap" (60_exceptions.md R137), and the
transport of the model has no failing step (R31, R142). Nothing raises one. -/
inductive Fault where
  deriving DecidableEq, Repr

/-- The refusals. -/
inductive Refusal where
  /-- Raised by exec's arm of an instruction that has no meaning yet; safe. No arm raises it now. -/
  | notModelled (mnemonic : String)
  /-- Raised by every meaning when another operation is still in flight: "gives no meaning to two operations in flight
  at once (it refuses them)" (20_memory.md R40, 70_reset_and_hazards.md R158); safe. `step` never issues an operation
  then, so no run reaches it (assumption log 13). -/
  | operationInFlight
  deriving DecidableEq, Repr

/-- The state after reset, "the moment a session is constructed, before any operation" (R155). The cached registers are
the uninterpreted CACHE_RESET (assumption log 5); RX and the model's own fields are empty (assumption log 6). -/
def State.reset : State where
  cken := true
  status := Config.statusReset
  volume := Config.volumeReset
  curtrack := Config.curtrackReset
  numtracks := Config.numtracksReset
  maxvol := 30
  tx := []
  rx := []
  waiting := none
  result := .none
  ops := []
  arrivals := []

end Sys2Proof.Machine
end

