-- ==== Sys2Proof/Machine/Ops.lean ====
section
/-! DEFINITION. The shared operations: named updates of the state, the transport primitives (20_memory.md R31, R32), the
encoder's pseudocode (40_encoder.md R70), the reply decoder (41_validator_decoder.md R88) with its one failure, the
command layer's SEND and query protocol (R100, R120), and the issue of an operation (R11, R40). -/

namespace Sys2Proof.Machine

/-- The outcome of an operation. -/
abbrev Out := Host.Outcome State Fault Refusal

/-! ## Named updates -/

/-- Present an operation's results on the host interface (`return (...)`, R9). -/
def State.ret (r : Result) (s : State) : State := { s with result := r }

/-- `CKEN <- en` (R76). -/
def State.setCken (en : Bool) (s : State) : State := { s with cken := en }

/-- `MAXVOL <- v` (R111). -/
def State.setMaxvol (v : Byte) (s : State) : State := { s with maxvol := v }

/-- `STATUS <- v` (R88). -/
def State.setStatus (v : Byte) (s : State) : State := { s with status := v }

/-- `VOLUME <- v` (R88). -/
def State.setVolume (v : Byte) (s : State) : State := { s with volume := v }

/-- `NUMTRACKS <- v` (R88). -/
def State.setNumtracks (v : Half) (s : State) : State := { s with numtracks := v }

/-- `CURTRACK <- v` (R88). -/
def State.setCurtrack (v : Half) (s : State) : State := { s with curtrack := v }

/-- The bytes of RX after an access. -/
def State.setRx (bs : List Byte) (s : State) : State := { s with rx := bs }

/-- The operation stays in flight: it waits in `RxRead` and has returned nothing (R32, R159). -/
def State.await (k : Await) (s : State) : State := { s with waiting := some k, result := .none }

/-- No operation is in flight any more. -/
def State.done (s : State) : State := { s with waiting := none }

/-- The host's remaining operations. -/
def State.setOps (is : List Instr) (s : State) : State := { s with ops := is }

/-! ## The transport -/

/-- `TxWrite(bytes)`: append to TX, total, no result (R31). -/
def State.txWrite (bs : List Byte) (s : State) : State := { s with tx := s.tx ++ bs }

/-- `RxRead(10)`: remove the first ten bytes of RX and return them in arrival order; `none` while fewer are there, since
then it has no step (R32). -/
def rxRead (s : State) : Option (Reply × State) :=
  match s.rx with
  | b0 :: b1 :: b2 :: b3 :: b4 :: b5 :: b6 :: b7 :: b8 :: b9 :: rest =>
    some (⟨b0, b1, b2, b3, b4, b5, b6, b7, b8, b9⟩, s.setRx rest)
  | _ => none

/-- The bytes the device delivers before this step are appended to RX (R23, R33). -/
def State.deliver (s : State) : State :=
  match s.arrivals with
  | [] => s
  | chunk :: later => { s with rx := s.rx ++ chunk, arrivals := later }

/-! ## The cached registers -/

/-- `CLR r`: the register becomes the sentinel zero (R92). -/
def State.clear (r : CacheReg) (s : State) : State :=
  match r with
  | .status => s.setStatus 0
  | .volume => s.setVolume 0
  | .numtracks => s.setNumtracks 0
  | .curtrack => s.setCurtrack 0

/-- `RD r`: the value of the register, 8 or 16 bits (R93). -/
def State.read (r : CacheReg) (s : State) : Result :=
  match r with
  | .status => .byte s.status
  | .volume => .byte s.volume
  | .numtracks => .half s.numtracks
  | .curtrack => .half s.curtrack

/-! ## The encoder -/

/-- The pseudocode of ENC (R70): `len` and `bytes`, a function of the operands and CKEN (R75). The frame is local to the
operation (R20). -/
def encodeFrame (cken : Bool) (cmd : Byte) (param : Half) : Nat × List Byte :=
  let f0 : Byte := startByte
  let f1 : Byte := versionByte
  let f2 : Byte := lengthByte
  let f3 : Byte := cmd
  let f4 : Byte := feedbackByte
  let f5 : Byte := hiByte param
  let f6 : Byte := loByte param
  let sum : Half := zext16 f1 + zext16 f2 + zext16 f3 + zext16 f4 + zext16 f5 + zext16 f6
  let ck : Half := 0 - sum
  let f7 : Byte := hiByte ck
  let f8 : Byte := loByte ck
  let f9 : Byte := endByte
  if cken then (10, [f0, f1, f2, f3, f4, f5, f6, f7, f8, f9])
  else
    let f7 : Byte := endByte
    (8, [f0, f1, f2, f3, f4, f5, f6, f7])

/-! ## The reply decoder and its failure -/

/-- `raise MalformedReply`, the one failure of the block (60_exceptions.md R137): the operation stops here with `ok = 0`
and writes nothing further. Nothing is saved, no mode changes and no handler is entered, so there is no return from it
either (R141). -/
def raiseMalformedReply (s : State) : Bool × State := (false, s)

/-- The `case` of DEC on the reply's command byte (R88, R89): one register is written or none (R90). -/
def State.store (f : Reply) (s : State) : State :=
  if f.command = opQStatus then s.setStatus f.dataLo
  else if f.command = opQVol then s.setVolume f.dataLo
  else if f.command = opQNum then s.setNumtracks (joinBytes f.dataHi f.dataLo)
  else if f.command = opQTrack then s.setCurtrack (joinBytes f.dataHi f.dataLo)
  else s

/-- DEC (R88): `ok` and the state after it. The structural check comes before the dispatch (R139). -/
def decodeReply (f : Reply) (s : State) : Bool × State :=
  if replyOk f then (true, s.store f) else raiseMalformedReply s

/-! ## The command layer -/

/-- SEND (R100): encode and transmit one frame. -/
def State.send (cmd : Byte) (param : Half) (s : State) : State :=
  s.txWrite (encodeFrame s.cken cmd param).2

/-- The effect of SETVOL (R106), shared with SETMAXVOL (R111). -/
def State.sendVolume (v : Byte) (s : State) : State :=
  s.send opSetVol (zext16 (clampVolume s.maxvol v))

/-- What an operation does after DEC has answered `ok` (R120, R125, R111). -/
def finish (k : Await) (ok : Bool) (s : State) : State :=
  match k with
  | .query _ => s.ret (.ok ok)
  | .accessor r => s.ret (s.read r)
  | .setMaxVol => (if s.maxvol < s.volume then s.sendVolume s.maxvol else s).ret .none

/-- Step 3 of the query protocol and all that follows it (R120): with ten bytes in RX the operation reads them, decodes
them and completes; with fewer it waits, without limit (R127, R159). -/
def receive (k : Await) (s : State) : State :=
  match rxRead s with
  | some (f, s') => finish k (decodeReply f s').1 (decodeReply f s').2.done
  | none => s.await k

/-- The query protocol (R120) up to its continuation: clear the register, send the query frame with a zero parameter,
then read. -/
def runQuery (q : Byte) (r : CacheReg) (k : Await) (s : State) : State :=
  receive k ((s.clear r).send q 0)

/-! ## Issue -/

/-- The host issues an operation with the given effect. While another is in flight it is refused (R40, R158). -/
def issue (effect : State → State) (s : State) : Out :=
  match s.waiting with
  | none => .next (effect s)
  | some _ => .refused .operationInFlight

/-- A fire-and-forget command (R112): one SEND, no result. -/
def sendCommand (cmd : Byte) (param : Half) (s : State) : Out :=
  issue (fun s => (s.send cmd param).ret .none) s

/-- The next operation of the host's list and the state with the list advanced (R11). -/
def nextOp (s : State) : Option (Instr × State) :=
  match s.ops with
  | [] => none
  | i :: rest => some (i, s.setOps rest)

end Sys2Proof.Machine
end

