-- ==== Sys2Proof/Machine/Codec.lean ====
section
/-! DEFINITION. The meanings of the six codec operations (30_encoding.md R58). They touch no transport (R30). -/

namespace Sys2Proof.Machine

/-- `ENC cmd, param` (R70): no register is written; `len` and `bytes` are returned. -/
def execEnc (cmd : Byte) (param : Half) (s : State) : Out :=
  issue (fun s => s.ret (.frame (encodeFrame s.cken cmd param).1 (encodeFrame s.cken cmd param).2)) s

/-- `SETCK en` (R76). -/
def execSetck (en : Bool) (s : State) : Out :=
  issue (fun s => (s.setCken en).ret .none) s

/-- `VAL f` (R85): `ok` is returned, nothing is written. -/
def execVal (f : Reply) (s : State) : Out :=
  issue (fun s => s.ret (.ok (replyOk f))) s

/-- `DEC f` (R88). -/
def execDec (f : Reply) (s : State) : Out :=
  issue (fun s => (decodeReply f s).2.ret (.ok (decodeReply f s).1)) s

/-- `CLR r` (R92). -/
def execClr (r : CacheReg) (s : State) : Out :=
  issue (fun s => (s.clear r).ret .none) s

/-- `RD r` (R93). -/
def execRd (r : CacheReg) (s : State) : Out :=
  issue (fun s => s.ret (s.read r)) s

end Sys2Proof.Machine
end

