-- ==== Sys2Proof/Machine/Commands.lean ====
section
/-! DEFINITION. The meanings of the command layer's SEND, of the ten fire-and-forget commands and of SETMAXVOL
(42_commands.md). The six commands without an argument carry 0x0000 (R56, D8; assumption log 9). -/

namespace Sys2Proof.Machine

/-- `SEND cmd, param` (R100). -/
def execSend (cmd : Byte) (param : Half) (s : State) : Out := sendCommand cmd param s

/-- `NEXT` (R101). -/
def execNext (s : State) : Out := sendCommand opNext 0 s

/-- `PREV` (R102). -/
def execPrev (s : State) : Out := sendCommand opPrev 0 s

/-- `PLAY track` (R103): any 16-bit track, no range check. -/
def execPlay (track : Half) (s : State) : Out := sendCommand opPlay track s

/-- `VOLUP` (R104): no ceiling applies. -/
def execVolup (s : State) : Out := sendCommand opVolUp 0 s

/-- `VOLDN` (R105). -/
def execVoldn (s : State) : Out := sendCommand opVolDn 0 s

/-- `SETVOL v` (R106): clamped to MAXVOL; VOLUME is not written (R112). -/
def execSetvol (v : Byte) (s : State) : Out :=
  issue (fun s => (s.sendVolume v).ret .none) s

/-- `SETEQ preset` (R107): PARAM_HI is 0x00 (R54). -/
def execSeteq (preset : EqPreset) (s : State) : Out := sendCommand opSetEq (eqCode preset) s

/-- `SETMODE mode` (R108). -/
def execSetmode (mode : PlayMode) (s : State) : Out := sendCommand opSetMode (modeCode mode) s

/-- `RESUME` (R109). -/
def execResume (s : State) : Out := sendCommand opResume 0 s

/-- `PAUSE` (R110). -/
def execPause (s : State) : Out := sendCommand opPause 0 s

/-- `SETMAXVOL v` (R111): store the ceiling, query the volume, and when the ceiling is below it send the ceiling. -/
def execSetmaxvol (v : Byte) (s : State) : Out :=
  issue (fun s => runQuery opQVol .volume .setMaxVol (s.setMaxvol (clampCeiling v))) s

end Sys2Proof.Machine
end

