-- ==== Sys2Proof/Machine/Queries.lean ====
section
/-! DEFINITION. The meanings of QUERY, of the four queries and of the four accessors (43_queries.md). -/

namespace Sys2Proof.Machine

/-- `QUERY q, r` (R120), for every opcode and register. -/
def execQuery (q : Byte) (r : CacheReg) (s : State) : Out := issue (runQuery q r (.query r)) s

/-- `QSTATUS` (R121). -/
def execQstatus (s : State) : Out := issue (runQuery opQStatus .status (.query .status)) s

/-- `QVOL` (R122). -/
def execQvol (s : State) : Out := issue (runQuery opQVol .volume (.query .volume)) s

/-- `QNUM` (R123). -/
def execQnum (s : State) : Out := issue (runQuery opQNum .numtracks (.query .numtracks)) s

/-- `QTRACK` (R124). -/
def execQtrack (s : State) : Out := issue (runQuery opQTrack .curtrack (.query .curtrack)) s

/-- `GETSTATUS` (R125): the query, then RD of its register; the query's `ok` is discarded. -/
def execGetstatus (s : State) : Out := issue (runQuery opQStatus .status (.accessor .status)) s

/-- `GETVOL` (R125). -/
def execGetvol (s : State) : Out := issue (runQuery opQVol .volume (.accessor .volume)) s

/-- `GETNUM` (R125). -/
def execGetnum (s : State) : Out := issue (runQuery opQNum .numtracks (.accessor .numtracks)) s

/-- `GETTRACK` (R125). -/
def execGettrack (s : State) : Out := issue (runQuery opQTrack .curtrack (.accessor .curtrack)) s

end Sys2Proof.Machine
end

