-- ==== Sys2Proof/Machine/Dispatch.lean ====
section
/-! DEFINITION. Dispatch: one arm per operation. -/

namespace Sys2Proof.Machine

def exec (i : Instr) (s : State) : Host.Outcome State Fault Refusal :=
  match i with
  | .enc cmd param => Sys2Proof.Machine.execEnc cmd param s
  | .next => Sys2Proof.Machine.execNext s
  | .prev => Sys2Proof.Machine.execPrev s
  | .play track => Sys2Proof.Machine.execPlay track s
  | .volup => Sys2Proof.Machine.execVolup s
  | .voldn => Sys2Proof.Machine.execVoldn s
  | .setvol v => Sys2Proof.Machine.execSetvol v s
  | .seteq preset => Sys2Proof.Machine.execSeteq preset s
  | .setmode mode => Sys2Proof.Machine.execSetmode mode s
  | .resume => Sys2Proof.Machine.execResume s
  | .pause => Sys2Proof.Machine.execPause s
  | .qstatus => Sys2Proof.Machine.execQstatus s
  | .qvol => Sys2Proof.Machine.execQvol s
  | .qnum => Sys2Proof.Machine.execQnum s
  | .qtrack => Sys2Proof.Machine.execQtrack s
  | .val f => Sys2Proof.Machine.execVal f s
  | .dec f => Sys2Proof.Machine.execDec f s
  | .setck en => Sys2Proof.Machine.execSetck en s
  | .clr r => Sys2Proof.Machine.execClr r s
  | .rd r => Sys2Proof.Machine.execRd r s
  | .send cmd param => Sys2Proof.Machine.execSend cmd param s
  | .setmaxvol v => Sys2Proof.Machine.execSetmaxvol v s
  | .query q r => Sys2Proof.Machine.execQuery q r s
  | .getstatus => Sys2Proof.Machine.execGetstatus s
  | .getvol => Sys2Proof.Machine.execGetvol s
  | .getnum => Sys2Proof.Machine.execGetnum s
  | .gettrack => Sys2Proof.Machine.execGettrack s

end Sys2Proof.Machine
end

