-- ==== Sys2Proof/Machine/Step.lean ====
section
/-! DEFINITION. One step. The device's bytes for this step arrive first. An operation that waits in `RxRead` then goes
on or keeps waiting: the host is not let past it (70_reset_and_hazards.md R159). Otherwise the host issues its next
operation (10_state.md R11); with none left the block does nothing by itself (60_exceptions.md R143). -/

namespace Sys2Proof.Machine

/-- The step function. -/
def step (s : State) : Host.Outcome State Fault Refusal :=
  match s.deliver.waiting with
  | some k => .next (receive k s.deliver)
  | none =>
    match nextOp s.deliver with
    | some (i, s') => exec i s'
    | none => .next s.deliver

/-- `s` with the operation of a table word placed as the host's next one, and no operation in flight, so that the next
step runs exactly it (assumption log 1). A word that decodes to nothing leaves the host with nothing to issue. -/
def State.withFetchWord (s : State) (nbits w : Nat) : State :=
  match decodeTableWord nbits w with
  | some i => { s with ops := i :: s.ops, waiting := none }
  | none => { s with ops := [], waiting := none }

end Sys2Proof.Machine
end

