-- ==== Sys2Proof/Safety.lean ====
section
/-! DEFINITION. What counts as a safe run, in the terms the statements use: the invariant of the machine's state, and
what a reader of the wire can make of TX. -/

namespace Sys2Proof.Machine

/-- One outgoing frame as a reader of the wire sees it: whether it is FULL, its COMMAND and its PARAMETER. -/
structure WireItem where
  full : Bool
  command : Byte
  param : Half
  deriving DecidableEq, Repr

/-- The bytes of the frame (30_encoding.md R51, R52, R61). -/
def WireItem.bytes (w : WireItem) : List Byte := wireFrame w.full w.command w.param

/-- Frames one after another, as they stand in TX (20_memory.md R37, R38). -/
def wireStream (ws : List WireItem) : List Byte := ws.flatMap WireItem.bytes

/-- A reader of the wire. It takes frames off the front and tells a SHORT from a FULL frame by byte 7, which is END in a
SHORT frame and never in a FULL one (R61: "may help a device model"); it checks the checksum of a FULL frame. `none` if
the bytes are not a sequence of whole frames. -/
def readWire : List Byte → Option (List WireItem)
  | [] => some []
  | b0 :: b1 :: b2 :: c :: b4 :: h :: l :: b7 :: rest =>
    if b7 = endByte then
      if templateOk b0 b1 b2 b4 b7 then (readWire rest).map (⟨false, c, joinBytes h l⟩ :: ·) else none
    else
      match rest with
      | b8 :: b9 :: rest' =>
        if templateOk b0 b1 b2 b4 b9 && joinBytes b7 b8 == frameChecksum c (joinBytes h l) then
          (readWire rest').map (⟨true, c, joinBytes h l⟩ :: ·)
        else none
      | _ => none
  | _ => none
termination_by structural bs => bs

/-! ## Groups of operations the rules speak of -/

/-- The six codec operations (30_encoding.md R58). -/
def isCodec : Instr → Bool
  | .enc _ _ | .setck _ | .val _ | .dec _ | .clr _ | .rd _ => true
  | _ => false

/-- The ten fire-and-forget commands (42_commands.md R101 to R110). -/
def isCommand : Instr → Bool
  | .next | .prev | .play _ | .volup | .voldn | .setvol _ | .seteq _ | .setmode _ | .resume | .pause => true
  | _ => false

/-- The operations that perform `RxRead`: the queries, the accessors and SETMAXVOL (43_queries.md R120, R125; 42_commands.md
R111). -/
def readsReply : Instr → Bool
  | .query _ _ | .qstatus | .qvol | .qnum | .qtrack | .getstatus | .getvol | .getnum | .gettrack | .setmaxvol _ => true
  | _ => false

/-! ## Runs -/

/-- `n` steps one after another, stopping where the machine stops; `Host.Core.run` at this machine. -/
def runSteps : Nat → State → Out
  | 0, s => .next s
  | n + 1, s =>
    match step s with
    | .next t => runSteps n t
    | .fault r => .fault r
    | .refused r => .refused r

/-! ## The invariant -/

/-- The register a waiting operation has cleared: its own for a query or an accessor, VOLUME for SETMAXVOL (43_queries.md
R120, R125; 42_commands.md R111). -/
def Await.register : Await → CacheReg
  | .query r => r
  | .accessor r => r
  | .setMaxVol => .volume

/-- A cached register holds the sentinel zero (41_validator_decoder.md R92). -/
def State.AtSentinel (s : State) : CacheReg → Prop
  | .status => s.status = 0
  | .volume => s.volume = 0
  | .numtracks => s.numtracks = 0
  | .curtrack => s.curtrack = 0

/-- The invariant of every run. -/
structure State.Inv (s : State) : Prop where
  /-- "Invariant: `MAXVOL <= 30` at all times" (10_state.md R17). -/
  ceiling : s.maxvol ≤ 30
  /-- TX is a sequence of whole frames, each FULL or SHORT (20_memory.md R31, R37). -/
  framed : ∃ ws, s.tx = wireStream ws
  /-- An operation waits only while fewer than ten bytes are in RX (R32). -/
  starved : s.waiting ≠ none → s.rx.length < 10
  /-- A waiting operation has returned nothing (R159). -/
  unreturned : s.waiting ≠ none → s.result = .none
  /-- A waiting operation's register is at the sentinel: QUERY clears it first, and nothing else runs meanwhile (R120,
  60_exceptions.md R139). -/
  sentinel : ∀ k, s.waiting = some k → s.AtSentinel k.register

end Sys2Proof.Machine
end

