-- ==== Sys2Proof/Certificates/Slice0/Obligations.lean ====
section
/-! DEFINITION. The statements for the provers. Each docstring names the rule of spec/ it formalises. `s.waiting = none`
says that no operation is in flight: the only condition under which one may be issued (70_reset_and_hazards.md R158). A
statement about a reply is for any ten bytes `f` at the front of RX. EQ and mode codes are uninterpreted, so a
statement with `eqCode` holds for every table. The outgoing frame `wireFrame` is written out byte by byte in
FrameFormatsAndChecksum. The fields `waiting`, `result`, `ops` and `arrivals` are the model's own (assumption log 1
to 4). -/

open Sys2Proof Sys2Proof.Machine

/-! ## Encoding -/

/-- Words of opcode_table.json decode to their operations (30_encoding.md R51, R52, R56, R64). Several rows of R64 select
the words of QTRACK, ENC and DEC, and which one wins is the model's own choice (assumption log 11); the zero parameter of
NEXT and PAUSE is the spec's own decision D8 (assumption log 9). -/
def Obligations.TableWordsDecode : Prop :=
  decodeTableWord 80 0x7EFF0601000000FEFAEF = some .next ∧
  decodeTableWord 64 0x7EFF060E000000EF = some .pause ∧
  decodeTableWord 80 0x7EFF060300270FFEC2EF = some (.play 9999) ∧
  decodeTableWord 80 0x7EFF060600001EFED7EF = some (.setvol 30) ∧
  decodeTableWord 80 0x7EFF064C000000FEAFEF = some .qtrack ∧
  decodeTableWord 80 0x7EFF06FF00FFFFFBFEEF = some (.enc 0xFF 0xFFFF) ∧
  decodeTableWord 80 0x7E000642011234AABBEF = some (.dec ⟨0x7E, 0x00, 0x06, 0x42, 0x01, 0x12, 0x34, 0xAA, 0xBB, 0xEF⟩)

/-- The frame formats FULL (R51) and SHORT (R52) with the checksum of R71, written out. -/
def Obligations.FrameFormatsAndChecksum : Prop :=
  ∀ (c : Byte) (p : Half) (ck : Half),
    ck = 0 - ((0xFF : Byte).setWidth 16 + (0x06 : Byte).setWidth 16 + c.setWidth 16 + (0x00 : Byte).setWidth 16
      + (p.extractLsb' 8 8).setWidth 16 + (p.extractLsb' 0 8).setWidth 16) →
    wireFrame true c p = [0x7E, 0xFF, 0x06, c, 0x00, p.extractLsb' 8 8, p.extractLsb' 0 8,
      ck.extractLsb' 8 8, ck.extractLsb' 0 8, 0xEF] ∧
    wireFrame false c p = [0x7E, 0xFF, 0x06, c, 0x00, p.extractLsb' 8 8, p.extractLsb' 0 8, 0xEF]

/-- Decode and encode agree, exactly, for every operation whose frame determines it, with every operand the frame can
carry; a SETEQ or SETMODE frame gives back an operation with the same code (SinglePlay and FolderRepeat share one, and
the open codes may coincide). The ceiling is at most 30, as it always is (10_state.md R17). Which operation a frame
stands for is the model's choice (assumption log 11); the zero parameter of the six commands without an argument is the
spec's own decision D8 (assumption log 9). -/
def Obligations.DecodeInvertsEncode : Prop :=
  ∀ (cken : Bool) (maxvol : Byte), maxvol ≤ 30 →
    (∀ i : Instr, (i = .next ∨ i = .prev ∨ i = .volup ∨ i = .voldn ∨ i = .resume ∨ i = .pause ∨ i = .qstatus ∨
        i = .qvol ∨ i = .qnum ∨ i = .qtrack ∨ (∃ t, i = .play t) ∨ (∃ f, i = .val f) ∨ (∃ f, i = .dec f) ∨
        (∃ v, i = .setvol v ∧ v ≤ maxvol) ∨
        (∃ c p, i = .enc c p ∧ ∀ o ∈ ([0x01, 0x02, 0x03, 0x04, 0x05, 0x06, 0x07, 0x08, 0x0D, 0x0E, 0x42, 0x43, 0x47, 0x4C] : List Byte),
          c ≠ o)) →
      ∃ bs, encode cken maxvol i = some bs ∧ decode i.port bs = .ok i) ∧
    (∀ v, ∃ bs, encode cken maxvol (.setvol v) = some bs ∧
      decode .wire bs = .ok (.setvol (if v ≤ maxvol then v else maxvol))) ∧
    (∀ e, ∃ bs e', encode cken maxvol (.seteq e) = some bs ∧ decode .wire bs = .ok (.seteq e') ∧
      eqCode e' = eqCode e) ∧
    (∀ m, ∃ bs m', encode cken maxvol (.setmode m) = some bs ∧ decode .wire bs = .ok (.setmode m') ∧
      modeCode m' = modeCode m)

/-- Every frame an operation encodes to decodes to a well-formed operation that encodes to the same frame. Which
operation a frame stands for is the model's choice (assumption log 11). -/
def Obligations.EncodedFramesReencode : Prop :=
  ∀ (cken : Bool) (maxvol : Byte) (i : Instr) (bs : List Byte), maxvol ≤ 30 → encode cken maxvol i = some bs →
    ∃ j, decode i.port bs = .ok j ∧ j.wf = true ∧ encode cken 30 j = some bs

/-- A reader of the wire that tells a SHORT from a FULL frame by byte 7 alone reads any sequence of frames back, FULL and
SHORT mixed: R61's fact makes the outgoing stream uniquely decodable. -/
def Obligations.WireStreamReadsBack : Prop :=
  ∀ ws : List WireItem, readWire (wireStream ws) = some ws

/-! ## Reset and the invariant -/

/-- After reset CKEN is 1, MAXVOL is 30 and TX is empty (R155). No value of a cached register is claimed: they are
unspecified (assumption log 5). -/
def Obligations.ResetDefaults : Prop :=
  State.reset.cken = true ∧ State.reset.maxvol = 30 ∧ State.reset.tx = []

/-- The invariant holds at reset. -/
def Obligations.ResetMeetsInvariant : Prop := State.reset.Inv

/-- Every step keeps the invariant: MAXVOL stays at most 30, TX stays a sequence of whole frames, an operation waits only
while fewer than ten bytes are there, has returned nothing, and the register it has cleared (its own for a query or an
accessor, VOLUME for SETMAXVOL) stays at the sentinel. -/
def Obligations.StepKeepsInvariant : Prop :=
  ∀ s t : State, s.Inv → step s = .next t → t.Inv

/-! ## The step -/

/-- With no operation in flight, a step is exec of the host's next operation, at the state in which this step's bytes have
arrived and the operation has left the host's list (10_state.md R11). -/
def Obligations.StepRunsNextOperation : Prop :=
  ∀ (s : State) (i : Instr) (rest : List Instr), s.waiting = none → s.ops = i :: rest →
    step s = exec i { s with rx := s.rx ++ s.arrivals.headD [], arrivals := s.arrivals.tail, ops := rest }

/-- A table word that decodes to an operation is run by the very next step after it is placed. -/
def Obligations.StepRunsPlacedWord : Prop :=
  ∀ (s : State) (nbits w : Nat) (i : Instr), decodeTableWord nbits w = some i →
    step (s.withFetchWord nbits w) =
      exec i { s with waiting := none, rx := s.rx ++ s.arrivals.headD [], arrivals := s.arrivals.tail }

/-- The machine never stops: every step of every state answers a next state. No fault exists (60_exceptions.md R137) and
no run reaches a refusal. That a wait with fewer than ten bytes is a next state, where R32 says that RxRead has no step,
is the model's choice (assumption log 3), and so is the idle step (assumption log 19). -/
def Obligations.StepAlwaysAnswersNext : Prop :=
  ∀ s : State, ∃ t, step s = .next t

/-- Every operation, on every operand, answers a next state whenever none is in flight (R112, R137, R144). That the
operations that read a reply answer a waiting state while fewer than ten bytes are there is the model's choice
(assumption log 3), and so is that a QUERY runs with a register that is not its opcode's (assumption log 18). -/
def Obligations.EveryOperationRuns : Prop :=
  ∀ (i : Instr) (s : State), s.waiting = none → ∃ t, exec i s = .next t

/-- An operation issued while another is in flight is refused, whatever it is (20_memory.md R40, R158). -/
def Obligations.OverlappingOperationRefused : Prop :=
  ∀ (i : Instr) (s : State) (k : Await), s.waiting = some k → exec i s = .refused .operationInFlight

/-! ## The codec operations -/

/-- ENC (40_encoder.md R70): the ten or eight bytes, and no register, stream or other state changes. -/
def Obligations.EncReturnsFrame : Prop :=
  ∀ (c : Byte) (p : Half) (s : State) (ck : Half), s.waiting = none →
    ck = 0 - ((0xFF : Byte).setWidth 16 + (0x06 : Byte).setWidth 16 + c.setWidth 16 + (0x00 : Byte).setWidth 16
      + (p.extractLsb' 8 8).setWidth 16 + (p.extractLsb' 0 8).setWidth 16) →
    (s.cken = true → exec (.enc c p) s = .next { s with
      result := .frame 10 [0x7E, 0xFF, 0x06, c, 0x00, p.extractLsb' 8 8, p.extractLsb' 0 8,
        ck.extractLsb' 8 8, ck.extractLsb' 0 8, 0xEF] }) ∧
    (s.cken = false → exec (.enc c p) s = .next { s with
      result := .frame 8 [0x7E, 0xFF, 0x06, c, 0x00, p.extractLsb' 8 8, p.extractLsb' 0 8, 0xEF] })

/-- The arithmetic facts of the checksum (R72, which the spec derives from R70 and R71), with `sum` exact in Nat: it never
wraps, the four bullets hold, and the bounds are reached where the rule says. -/
def Obligations.ChecksumArithmetic : Prop :=
  (frameChecksum 0x00 0x0000 = 0xFEFB ∧ frameChecksum 0xFF 0xFFFF = 0xFBFE ∧ frameChecksum 0x07 0x0005 = 0xFEEF ∧
    frameChecksum 0x00 0x0100 = frameChecksum 0x00 0x0001) ∧
  (∀ (c : Byte) (p : Half),
    let sum := 0x105 + c.toNat + (p.extractLsb' 8 8).toNat + (p.extractLsb' 0 8).toNat
    0x105 ≤ sum ∧ sum ≤ 0x402 ∧ (frameChecksum c p).toNat = 65536 - sum ∧
    0xFBFE ≤ (frameChecksum c p).toNat ∧ (frameChecksum c p).toNat ≤ 0xFEFB ∧
    hiByte (frameChecksum c p) ∈ ([0xFB, 0xFC, 0xFD, 0xFE] : List Byte) ∧
    (sum + (frameChecksum c p).toNat) % 65536 = 0) ∧
  (∀ b : Byte, ∃ c p, loByte (frameChecksum c p) = b) ∧
  (∀ (c : Byte) (p q : Half),
    (p.extractLsb' 8 8).toNat + (p.extractLsb' 0 8).toNat = (q.extractLsb' 8 8).toNat + (q.extractLsb' 0 8).toNat →
    frameChecksum c p = frameChecksum c q)

/-- The properties of ENC (R75): recomputing the checksum over the produced frame gives its checksum bytes, the SHORT
result is the first seven bytes and END, and VAL accepts every FULL result. -/
def Obligations.EncRoundTripPrefixAndAcceptance : Prop :=
  ∀ (c : Byte) (p : Half) (s : State), s.waiting = none →
    ∃ f : Reply,
      exec (.enc c p) { s with cken := true } = .next { s with cken := true, result := .frame 10 f.bytes } ∧
      joinBytes f.ckHi f.ckLo = 0 - (f.version.setWidth 16 + f.length.setWidth 16 + f.command.setWidth 16
        + f.feedback.setWidth 16 + f.dataHi.setWidth 16 + f.dataLo.setWidth 16) ∧
      exec (.enc c p) { s with cken := false } =
        .next { s with cken := false, result := .frame 8 (f.bytes.take 7 ++ [0xEF]) } ∧
      exec (.val f) s = .next { s with result := .ok true }

/-- Byte 7 is END in every SHORT frame and in no FULL frame (30_encoding.md R61). -/
def Obligations.ByteSevenTellsShortFromFull : Prop :=
  ∀ (c : Byte) (p : Half), (wireFrame false c p)[7]? = some 0xEF ∧ (wireFrame true c p)[7]? ≠ some 0xEF

/-- SETCK (R76) writes CKEN and nothing else. -/
def Obligations.SetckWritesCken : Prop :=
  ∀ (en : Bool) (s : State), s.waiting = none →
    exec (.setck en) s = .next { s with cken := en, result := .none }

/-- A SETCK is seen by the ENC issued after it (20_memory.md R41): the length of its result is 10 or 8 by `en`, whatever
CKEN was before. -/
def Obligations.SetckSeenByNextEnc : Prop :=
  ∀ (en : Bool) (c : Byte) (p : Half) (s : State), s.waiting = none →
    ∃ t u, exec (.setck en) s = .next t ∧ exec (.enc c p) t = .next u ∧
      u.result = .frame (if en then 10 else 8) (wireFrame en c p)

/-- VAL (41_validator_decoder.md R85): `ok` is the conjunction of three comparisons, and nothing is written. -/
def Obligations.ValChecksThreeBytes : Prop :=
  ∀ (f : Reply) (s : State), s.waiting = none →
    exec (.val f) s =
      .next { s with result := .ok (decide (f.start = 0x7E ∧ f.length = 0x06 ∧ f.stop = 0xEF)) }

/-- Bytes 1 and 3 to 8 have no influence on VAL (R86), and no state has (R87): two replies that agree in bytes 0, 2 and 9
get the same `ok`, in any two states. -/
def Obligations.ValIgnoresTheRest : Prop :=
  ∀ (f g : Reply) (s t : State), f.start = g.start → f.length = g.length → f.stop = g.stop →
    s.waiting = none → t.waiting = none →
    ∃ ok, exec (.val f) s = .next { s with result := .ok ok } ∧ exec (.val g) t = .next { t with result := .ok ok }

/-- The value DEC stores for each of the four query opcodes (R89), byte 5 ignored for the 8-bit registers, stored
unchanged; every other register keeps its value. Which register 0x47 and 0x4C write, and that nothing is range-checked,
are the spec's own decisions D12 and D20 (assumption log 9). -/
def Obligations.DecStoresByReplyCommand : Prop :=
  ∀ (f : Reply) (s : State), s.waiting = none → f.start = 0x7E → f.length = 0x06 → f.stop = 0xEF →
    (f.command = 0x42 → exec (.dec f) s = .next { s with status := f.dataLo, result := .ok true }) ∧
    (f.command = 0x43 → exec (.dec f) s = .next { s with volume := f.dataLo, result := .ok true }) ∧
    (f.command = 0x47 → exec (.dec f) s =
      .next { s with numtracks := (f.dataHi.setWidth 16 <<< 8) ||| f.dataLo.setWidth 16, result := .ok true }) ∧
    (f.command = 0x4C → exec (.dec f) s =
      .next { s with curtrack := (f.dataHi.setWidth 16 <<< 8) ||| f.dataLo.setWidth 16, result := .ok true })

/-- A well-formed reply with any other command byte changes no register (30_encoding.md R60). That `ok` is 1 then is the
spec's own decision D11 (assumption log 10). -/
def Obligations.DecUnrecognisedChangesNothing : Prop :=
  ∀ (f : Reply) (s : State), s.waiting = none → f.start = 0x7E → f.length = 0x06 → f.stop = 0xEF →
    f.command ≠ 0x42 → f.command ≠ 0x43 → f.command ≠ 0x47 → f.command ≠ 0x4C →
    exec (.dec f) s = .next { s with result := .ok true }

/-- The state after a MalformedReply (60_exceptions.md R140), whichever of the three bytes are wrong (R136): VAL and DEC
change nothing; QUERY of each register with its own opcode, which is the named query, leaves its register at zero, the
other registers unchanged, its frame sent and ten bytes consumed; the accessor leaves the same and returns zero. The
accessor clauses are not of R140: that `ok` is discarded and the register returned is R125 and the spec's own decision
D26 (assumption log 9). -/
def Obligations.MalformedReplyTrace : Prop :=
  ∀ (f : Reply) (s : State), s.waiting = none → (f.start ≠ 0x7E ∨ f.length ≠ 0x06 ∨ f.stop ≠ 0xEF) →
    exec (.val f) s = .next { s with result := .ok false } ∧
    exec (.dec f) s = .next { s with result := .ok false } ∧
    (∀ rest : List Byte, s.rx = f.bytes ++ rest →
      exec (.query 0x42 .status) s =
        .next { s with status := 0, tx := s.tx ++ wireFrame s.cken 0x42 0, rx := rest, result := .ok false } ∧
      exec .qstatus s =
        .next { s with status := 0, tx := s.tx ++ wireFrame s.cken 0x42 0, rx := rest, result := .ok false } ∧
      exec .getstatus s =
        .next { s with status := 0, tx := s.tx ++ wireFrame s.cken 0x42 0, rx := rest, result := .byte 0 } ∧
      exec (.query 0x43 .volume) s =
        .next { s with volume := 0, tx := s.tx ++ wireFrame s.cken 0x43 0, rx := rest, result := .ok false } ∧
      exec .qvol s =
        .next { s with volume := 0, tx := s.tx ++ wireFrame s.cken 0x43 0, rx := rest, result := .ok false } ∧
      exec .getvol s =
        .next { s with volume := 0, tx := s.tx ++ wireFrame s.cken 0x43 0, rx := rest, result := .byte 0 } ∧
      exec (.query 0x47 .numtracks) s =
        .next { s with numtracks := 0, tx := s.tx ++ wireFrame s.cken 0x47 0, rx := rest, result := .ok false } ∧
      exec .qnum s =
        .next { s with numtracks := 0, tx := s.tx ++ wireFrame s.cken 0x47 0, rx := rest, result := .ok false } ∧
      exec .getnum s =
        .next { s with numtracks := 0, tx := s.tx ++ wireFrame s.cken 0x47 0, rx := rest, result := .half 0 } ∧
      exec (.query 0x4C .curtrack) s =
        .next { s with curtrack := 0, tx := s.tx ++ wireFrame s.cken 0x4C 0, rx := rest, result := .ok false } ∧
      exec .qtrack s =
        .next { s with curtrack := 0, tx := s.tx ++ wireFrame s.cken 0x4C 0, rx := rest, result := .ok false } ∧
      exec .gettrack s =
        .next { s with curtrack := 0, tx := s.tx ++ wireFrame s.cken 0x4C 0, rx := rest, result := .half 0 })

/-- CLR (R92) writes the sentinel zero to its register; the other three are not touched. -/
def Obligations.ClrWritesSentinel : Prop :=
  ∀ s : State, s.waiting = none →
    exec (.clr .status) s = .next { s with status := 0x00, result := .none } ∧
    exec (.clr .volume) s = .next { s with volume := 0x00, result := .none } ∧
    exec (.clr .numtracks) s = .next { s with numtracks := 0x0000, result := .none } ∧
    exec (.clr .curtrack) s = .next { s with curtrack := 0x0000, result := .none }

/-- RD (R93) returns its register, 8 or 16 bits wide, and writes nothing. -/
def Obligations.RdReturnsRegister : Prop :=
  ∀ s : State, s.waiting = none →
    exec (.rd .status) s = .next { s with result := .byte s.status } ∧
    exec (.rd .volume) s = .next { s with result := .byte s.volume } ∧
    exec (.rd .numtracks) s = .next { s with result := .half s.numtracks } ∧
    exec (.rd .curtrack) s = .next { s with result := .half s.curtrack }

/-- The codec operations complete and never touch the transport (20_memory.md R30). -/
def Obligations.CodecLeavesTransportAlone : Prop :=
  ∀ (i : Instr) (s : State), isCodec i = true → s.waiting = none →
    ∃ t, exec i s = .next t ∧ t.tx = s.tx ∧ t.rx = s.rx ∧ t.arrivals = s.arrivals

/-- VAL, DEC, CLR and RD neither read nor write CKEN (10_state.md R12). -/
def Obligations.CkenUnusedByReplySide : Prop :=
  ∀ (i : Instr) (s : State) (b : Bool), ((∃ f, i = .val f) ∨ (∃ f, i = .dec f) ∨ (∃ r, i = .clr r) ∨ (∃ r, i = .rd r)) →
    s.waiting = none →
    ∃ t, exec i s = .next t ∧ t.cken = s.cken ∧ exec i { s with cken := b } = .next { t with cken := b }

/-! ## The command layer -/

/-- SEND (42_commands.md R100): one frame, full or short by CKEN, is appended to TX; no register is written and nothing is
read from RX. -/
def Obligations.SendAppendsFrame : Prop :=
  ∀ (c : Byte) (p : Half) (s : State), s.waiting = none →
    exec (.send c p) s = .next { s with tx := s.tx ++ wireFrame s.cken c p, result := .none }

/-- The frames of the six commands without an argument, in both lengths. Their parameter 0x0000 is the spec's own decision
D8 (assumption log 9). -/
def Obligations.ArgumentlessCommandFrames : Prop :=
  ∀ s : State, s.waiting = none →
    exec .next s = .next { s with
      tx := s.tx ++ (if s.cken then [0x7E, 0xFF, 0x06, 0x01, 0x00, 0x00, 0x00, 0xFE, 0xFA, 0xEF]
        else [0x7E, 0xFF, 0x06, 0x01, 0x00, 0x00, 0x00, 0xEF])
      result := .none } ∧
    exec .prev s = .next { s with
      tx := s.tx ++ (if s.cken then [0x7E, 0xFF, 0x06, 0x02, 0x00, 0x00, 0x00, 0xFE, 0xF9, 0xEF]
        else [0x7E, 0xFF, 0x06, 0x02, 0x00, 0x00, 0x00, 0xEF])
      result := .none } ∧
    exec .volup s = .next { s with
      tx := s.tx ++ (if s.cken then [0x7E, 0xFF, 0x06, 0x04, 0x00, 0x00, 0x00, 0xFE, 0xF7, 0xEF]
        else [0x7E, 0xFF, 0x06, 0x04, 0x00, 0x00, 0x00, 0xEF])
      result := .none } ∧
    exec .voldn s = .next { s with
      tx := s.tx ++ (if s.cken then [0x7E, 0xFF, 0x06, 0x05, 0x00, 0x00, 0x00, 0xFE, 0xF6, 0xEF]
        else [0x7E, 0xFF, 0x06, 0x05, 0x00, 0x00, 0x00, 0xEF])
      result := .none } ∧
    exec .resume s = .next { s with
      tx := s.tx ++ (if s.cken then [0x7E, 0xFF, 0x06, 0x0D, 0x00, 0x00, 0x00, 0xFE, 0xEE, 0xEF]
        else [0x7E, 0xFF, 0x06, 0x0D, 0x00, 0x00, 0x00, 0xEF])
      result := .none } ∧
    exec .pause s = .next { s with
      tx := s.tx ++ (if s.cken then [0x7E, 0xFF, 0x06, 0x0E, 0x00, 0x00, 0x00, 0xFE, 0xED, 0xEF]
        else [0x7E, 0xFF, 0x06, 0x0E, 0x00, 0x00, 0x00, 0xEF])
      result := .none }

/-- PLAY (R103) sends opcode 0x03 with the track as it is, any 16 bits. -/
def Obligations.PlaySendsTrack : Prop :=
  ∀ (track : Half) (s : State), s.waiting = none →
    exec (.play track) s = .next { s with tx := s.tx ++ wireFrame s.cken 0x03 track, result := .none }

/-- SETVOL (R106) sends opcode 0x06 with `min(v, MAXVOL)` zero-extended, never above 30 while MAXVOL is not; VOLUME is not
written. That `v` is 8 bits unsigned is the spec's own decision D7 (assumption log 15). -/
def Obligations.SetvolSendsClampedVolume : Prop :=
  ∀ (v : Byte) (s : State), s.waiting = none →
    (s.maxvol ≤ 30 → min v.toNat s.maxvol.toNat ≤ 30) ∧
    exec (.setvol v) s = .next { s with
      tx := s.tx ++ wireFrame s.cken 0x06 (BitVec.ofNat 16 (min v.toNat s.maxvol.toNat))
      result := .none }

/-- The ceiling holds on the wire (R106, R17): from a state of the invariant the volume SETVOL sends is at most 30, and a
`v` above MAXVOL does what MAXVOL itself does. That `v` is 8 bits unsigned is the spec's own decision D7
(assumption log 15). -/
def Obligations.SetvolNeverAboveThirty : Prop :=
  ∀ (v : Byte) (s : State), s.Inv → s.waiting = none →
    (∃ p : Half, p ≤ 30 ∧ p ≤ s.maxvol.setWidth 16 ∧
      exec (.setvol v) s = .next { s with tx := s.tx ++ wireFrame s.cken 0x06 p, result := .none }) ∧
    (s.maxvol ≤ v → exec (.setvol v) s = exec (.setvol s.maxvol) s)

/-- SETEQ (R107) sends opcode 0x07 with the preset's EQ_CODE, whatever the open table is. -/
def Obligations.SeteqSendsPresetCode : Prop :=
  ∀ (e : EqPreset) (s : State), s.waiting = none →
    exec (.seteq e) s = .next { s with tx := s.tx ++ wireFrame s.cken 0x07 (eqCode e), result := .none }

/-- SETMODE (R108): SinglePlay and FolderRepeat produce byte-identical frames with 0x0001; the other two send their open
codes. -/
def Obligations.SetmodeSendsModeCode : Prop :=
  ∀ s : State, s.waiting = none →
    exec (.setmode .folderRepeat) s = .next { s with
      tx := s.tx ++ (if s.cken then [0x7E, 0xFF, 0x06, 0x08, 0x00, 0x00, 0x01, 0xFE, 0xF2, 0xEF]
        else [0x7E, 0xFF, 0x06, 0x08, 0x00, 0x00, 0x01, 0xEF])
      result := .none } ∧
    exec (.setmode .singlePlay) s = exec (.setmode .folderRepeat) s ∧
    exec (.setmode .singleRepeat) s =
      .next { s with tx := s.tx ++ wireFrame s.cken 0x08 (modeCode .singleRepeat), result := .none } ∧
    exec (.setmode .random) s =
      .next { s with tx := s.tx ++ wireFrame s.cken 0x08 (modeCode .random), result := .none }

/-- A narrow argument of the command layer is zero-extended (30_encoding.md R54): a volume, an EQ or a mode code leaves
PARAM_HI, byte 5 of the frame, 0x00 and stands in PARAM_LO, byte 6, in both lengths. That these arguments are 8 bits
wide is the spec's own decision D7 (assumption log 15); the open codes are any bytes (assumption log 7 and 8). -/
def Obligations.NarrowArgumentsZeroExtended : Prop :=
  ∀ s : State, s.waiting = none →
    (∀ v, ∃ bs, exec (.setvol v) s = .next { s with tx := s.tx ++ bs, result := .none } ∧ bs[5]? = some 0x00 ∧
      bs[6]? = some (BitVec.ofNat 8 (min v.toNat s.maxvol.toNat))) ∧
    (∀ e, ∃ bs, exec (.seteq e) s = .next { s with tx := s.tx ++ bs, result := .none } ∧ bs[5]? = some 0x00 ∧
      bs[6]? = some (Config.eqCode e)) ∧
    (∀ m, ∃ bs, exec (.setmode m) s = .next { s with tx := s.tx ++ bs, result := .none } ∧ bs[5]? = some 0x00 ∧
      bs[6]? = some (match m with
        | .singlePlay => 0x01
        | .folderRepeat => 0x01
        | .singleRepeat => Config.singleRepeatCode
        | .random => Config.randomCode))

/-- The properties common to the ten commands (R112): they cannot fail, return nothing, and change nothing but TX, which
grows by one frame of the length CKEN selects. -/
def Obligations.CommandsChangeOnlyTx : Prop :=
  ∀ (i : Instr) (s : State), isCommand i = true → s.waiting = none →
    ∃ bs, bs.length = (if s.cken then 10 else 8) ∧
      exec i s = .next { s with tx := s.tx ++ bs, result := .none }

/-- The same command twice sends two byte-identical frames (R113), provided CKEN and MAXVOL hold the same values the two
times, whatever else differs between the two states; neither frame is suppressed. The spec derives R113 from R75. -/
def Obligations.RepeatedCommandRepeatsFrame : Prop :=
  ∀ (i : Instr) (s u : State), isCommand i = true → s.waiting = none → u.waiting = none →
    s.cken = u.cken → s.maxvol = u.maxvol →
    ∃ bs, bs ≠ [] ∧ exec i s = .next { s with tx := s.tx ++ bs, result := .none } ∧
      exec i u = .next { u with tx := u.tx ++ bs, result := .none }

/-! ## Queries -/

/-- The four queries (43_queries.md R121 to R124): the query frame, and the register their reply updates. That
QNUM's reply updates NUMTRACKS is the spec's own decision D12 (assumption log 9). -/
def Obligations.QueriesStoreTheirReply : Prop :=
  ∀ (f : Reply) (rest : List Byte) (s : State), s.waiting = none → s.rx = f.bytes ++ rest →
    f.start = 0x7E → f.length = 0x06 → f.stop = 0xEF →
    (f.command = 0x42 → exec .qstatus s = .next { s with
      status := f.dataLo
      tx := s.tx ++ (if s.cken then [0x7E, 0xFF, 0x06, 0x42, 0x00, 0x00, 0x00, 0xFE, 0xB9, 0xEF]
        else [0x7E, 0xFF, 0x06, 0x42, 0x00, 0x00, 0x00, 0xEF])
      rx := rest
      result := .ok true }) ∧
    (f.command = 0x43 → exec .qvol s = .next { s with
      volume := f.dataLo
      tx := s.tx ++ (if s.cken then [0x7E, 0xFF, 0x06, 0x43, 0x00, 0x00, 0x00, 0xFE, 0xB8, 0xEF]
        else [0x7E, 0xFF, 0x06, 0x43, 0x00, 0x00, 0x00, 0xEF])
      rx := rest
      result := .ok true }) ∧
    (f.command = 0x47 → exec .qnum s = .next { s with
      numtracks := (f.dataHi.setWidth 16 <<< 8) ||| f.dataLo.setWidth 16
      tx := s.tx ++ (if s.cken then [0x7E, 0xFF, 0x06, 0x47, 0x00, 0x00, 0x00, 0xFE, 0xB4, 0xEF]
        else [0x7E, 0xFF, 0x06, 0x47, 0x00, 0x00, 0x00, 0xEF])
      rx := rest
      result := .ok true }) ∧
    (f.command = 0x4C → exec .qtrack s = .next { s with
      curtrack := (f.dataHi.setWidth 16 <<< 8) ||| f.dataLo.setWidth 16
      tx := s.tx ++ (if s.cken then [0x7E, 0xFF, 0x06, 0x4C, 0x00, 0x00, 0x00, 0xFE, 0xAF, 0xEF]
        else [0x7E, 0xFF, 0x06, 0x4C, 0x00, 0x00, 0x00, 0xEF])
      rx := rest
      result := .ok true })

/-- QUERY (R120) on any ten bytes, for every opcode and register: clear, send, take ten bytes, decode, return `ok`. A
reply of another kind writes its own register and leaves `r` at zero (R126). The four named queries are the QUERY of
their opcode and register in every state, so this is their whole next state too, on a malformed reply and on a reply of
another or of no known kind. That a pair outside R120's "the cached register that belongs to it" runs is the model's
choice (assumption log 18). Which register 0x47 and 0x4C write, and that nothing is range-checked, are the spec's own
decisions D12 and D20 (assumption log 9); that `ok` is 1 for a well-formed reply of no known kind is D11 (assumption
log 10). -/
def Obligations.QueryProtocolRuns : Prop :=
  (∀ (q : Byte) (r : CacheReg) (f : Reply) (rest : List Byte) (s : State) (ok : Bool),
    s.waiting = none → s.rx = f.bytes ++ rest → ok = decide (f.start = 0x7E ∧ f.length = 0x06 ∧ f.stop = 0xEF) →
    exec (.query q r) s = .next { s with
      status := if ok = true ∧ f.command = 0x42 then f.dataLo else if r = .status then 0 else s.status
      volume := if ok = true ∧ f.command = 0x43 then f.dataLo else if r = .volume then 0 else s.volume
      numtracks := if ok = true ∧ f.command = 0x47 then joinBytes f.dataHi f.dataLo
        else if r = .numtracks then 0 else s.numtracks
      curtrack := if ok = true ∧ f.command = 0x4C then joinBytes f.dataHi f.dataLo
        else if r = .curtrack then 0 else s.curtrack
      tx := s.tx ++ wireFrame s.cken q 0
      rx := rest
      result := .ok ok }) ∧
  (∀ s : State,
    exec .qstatus s = exec (.query 0x42 .status) s ∧ exec .qvol s = exec (.query 0x43 .volume) s ∧
    exec .qnum s = exec (.query 0x47 .numtracks) s ∧ exec .qtrack s = exec (.query 0x4C .curtrack) s)

/-- A valid reply of another kind (43_queries.md R126): the named query reports success with its register at zero, the
register of the reply's kind is written, or none when there is no such kind, and the accessor returns zero. That `ok` is 1
for a reply of no known kind is the spec's own decision D11 (assumption log 10), which register 0x47 and 0x4C write and
that nothing is range-checked are D12 and D20 (assumption log 9). -/
def Obligations.ReplyOfAnotherKindLeavesSentinel : Prop :=
  ∀ (f : Reply) (rest : List Byte) (s t : State), s.waiting = none → s.rx = f.bytes ++ rest →
    f.start = 0x7E → f.length = 0x06 → f.stop = 0xEF →
    (f.command ≠ 0x42 → t = { s with
        status := 0
        volume := if f.command = 0x43 then f.dataLo else s.volume
        numtracks := if f.command = 0x47 then joinBytes f.dataHi f.dataLo else s.numtracks
        curtrack := if f.command = 0x4C then joinBytes f.dataHi f.dataLo else s.curtrack
        tx := s.tx ++ wireFrame s.cken 0x42 0
        rx := rest } →
      exec .qstatus s = .next { t with result := .ok true } ∧ exec .getstatus s = .next { t with result := .byte 0 }) ∧
    (f.command ≠ 0x43 → t = { s with
        volume := 0
        status := if f.command = 0x42 then f.dataLo else s.status
        numtracks := if f.command = 0x47 then joinBytes f.dataHi f.dataLo else s.numtracks
        curtrack := if f.command = 0x4C then joinBytes f.dataHi f.dataLo else s.curtrack
        tx := s.tx ++ wireFrame s.cken 0x43 0
        rx := rest } →
      exec .qvol s = .next { t with result := .ok true } ∧ exec .getvol s = .next { t with result := .byte 0 }) ∧
    (f.command ≠ 0x47 → t = { s with
        numtracks := 0
        status := if f.command = 0x42 then f.dataLo else s.status
        volume := if f.command = 0x43 then f.dataLo else s.volume
        curtrack := if f.command = 0x4C then joinBytes f.dataHi f.dataLo else s.curtrack
        tx := s.tx ++ wireFrame s.cken 0x47 0
        rx := rest } →
      exec .qnum s = .next { t with result := .ok true } ∧ exec .getnum s = .next { t with result := .half 0 }) ∧
    (f.command ≠ 0x4C → t = { s with
        curtrack := 0
        status := if f.command = 0x42 then f.dataLo else s.status
        volume := if f.command = 0x43 then f.dataLo else s.volume
        numtracks := if f.command = 0x47 then joinBytes f.dataHi f.dataLo else s.numtracks
        tx := s.tx ++ wireFrame s.cken 0x4C 0
        rx := rest } →
      exec .qtrack s = .next { t with result := .ok true } ∧ exec .gettrack s = .next { t with result := .half 0 })

/-- The accessors (R125) on any ten bytes: all is as the query leaves it, but the result is the register's value, and that
is zero when the reply is malformed or of another kind. That `ok` is discarded is the spec's own decision D26
(assumption log 9); that the query's `ok` is 1 for a well-formed reply of no known kind is D11 (assumption log 10); which
register 0x47 and 0x4C write, and that nothing is range-checked, are D12 and D20 (assumption log 9). -/
def Obligations.AccessorsReturnRegister : Prop :=
  ∀ (f : Reply) (rest : List Byte) (s : State) (ok : Bool),
    s.waiting = none → s.rx = f.bytes ++ rest → ok = decide (f.start = 0x7E ∧ f.length = 0x06 ∧ f.stop = 0xEF) →
    (∃ t, exec .getstatus s = .next t ∧ exec .qstatus s = .next { t with result := .ok ok } ∧
      t.status = (if ok = true ∧ f.command = 0x42 then f.dataLo else 0) ∧ t.result = .byte t.status ∧
      t.tx = s.tx ++ wireFrame s.cken 0x42 0 ∧ t.rx = rest ∧ t.waiting = none) ∧
    (∃ t, exec .getvol s = .next t ∧ exec .qvol s = .next { t with result := .ok ok } ∧
      t.volume = (if ok = true ∧ f.command = 0x43 then f.dataLo else 0) ∧ t.result = .byte t.volume ∧
      t.tx = s.tx ++ wireFrame s.cken 0x43 0 ∧ t.rx = rest ∧ t.waiting = none) ∧
    (∃ t, exec .getnum s = .next t ∧ exec .qnum s = .next { t with result := .ok ok } ∧
      t.numtracks = (if ok = true ∧ f.command = 0x47 then joinBytes f.dataHi f.dataLo else 0) ∧ t.result = .half t.numtracks ∧
      t.tx = s.tx ++ wireFrame s.cken 0x47 0 ∧ t.rx = rest ∧ t.waiting = none) ∧
    (∃ t, exec .gettrack s = .next t ∧ exec .qtrack s = .next { t with result := .ok ok } ∧
      t.curtrack = (if ok = true ∧ f.command = 0x4C then joinBytes f.dataHi f.dataLo else 0) ∧ t.result = .half t.curtrack ∧
      t.tx = s.tx ++ wireFrame s.cken 0x4C 0 ∧ t.rx = rest ∧ t.waiting = none)

/-- SETMAXVOL (42_commands.md R111) on any ten bytes: the clamped ceiling is stored, the volume queried, and a set-volume
frame with the new ceiling follows exactly when it is below the volume the query left. The order of the steps and
that the query is always sent are the spec's decision D19 (assumption log 14). The spec's own decisions too: SETMAXVOL 0
stores and sends 0, D14 (assumption log 20); `v` is 8 bits unsigned, D7 (assumption log 15); which register 0x47 and 0x4C
write and that nothing is range-checked, D12 and D20 (assumption log 9). -/
def Obligations.SetmaxvolQueriesThenLowers : Prop :=
  ∀ (v : Byte) (f : Reply) (rest : List Byte) (s : State) (ok : Bool) (m cur : Byte),
    s.waiting = none → s.rx = f.bytes ++ rest → ok = decide (f.start = 0x7E ∧ f.length = 0x06 ∧ f.stop = 0xEF) →
    m = BitVec.ofNat 8 (min v.toNat 30) → cur = (if ok = true ∧ f.command = 0x43 then f.dataLo else 0) →
    exec (.setmaxvol v) s = .next { s with
      maxvol := m
      volume := cur
      status := if ok = true ∧ f.command = 0x42 then f.dataLo else s.status
      numtracks := if ok = true ∧ f.command = 0x47 then joinBytes f.dataHi f.dataLo else s.numtracks
      curtrack := if ok = true ∧ f.command = 0x4C then joinBytes f.dataHi f.dataLo else s.curtrack
      tx := s.tx ++ wireFrame s.cken 0x43 0 ++ (if m < cur then wireFrame s.cken 0x06 (m.setWidth 16) else [])
      rx := rest
      result := .none }

/-! ## Waiting in RxRead -/

/-- With fewer than ten bytes in RX the queries have cleared their register and sent their frame, and wait (R120 steps 1 to
3, R159); SETMAXVOL has stored its ceiling too. The field `waiting` is the model's own (assumption log 3), and that a QUERY runs with
a register that is not its opcode's is the model's choice (assumption log 18). That SETMAXVOL stores the ceiling before
its query, and always queries, is the spec's own decision D19 (assumption log 14), that SETMAXVOL 0 stores 0 is D14
(assumption log 20), that `v` is 8 bits unsigned D7 (assumption log 15). -/
def Obligations.QueriesWaitForTenBytes : Prop :=
  ∀ s : State, s.waiting = none → s.rx.length < 10 →
    (∀ q, exec (.query q .status) s = .next { s with
      status := 0
      tx := s.tx ++ wireFrame s.cken q 0
      waiting := some (.query .status)
      result := .none }) ∧
    (∀ q, exec (.query q .volume) s = .next { s with
      volume := 0
      tx := s.tx ++ wireFrame s.cken q 0
      waiting := some (.query .volume)
      result := .none }) ∧
    (∀ q, exec (.query q .numtracks) s = .next { s with
      numtracks := 0
      tx := s.tx ++ wireFrame s.cken q 0
      waiting := some (.query .numtracks)
      result := .none }) ∧
    (∀ q, exec (.query q .curtrack) s = .next { s with
      curtrack := 0
      tx := s.tx ++ wireFrame s.cken q 0
      waiting := some (.query .curtrack)
      result := .none }) ∧
    exec .qstatus s = exec (.query 0x42 .status) s ∧ exec .qvol s = exec (.query 0x43 .volume) s ∧
    exec .qnum s = exec (.query 0x47 .numtracks) s ∧ exec .qtrack s = exec (.query 0x4C .curtrack) s ∧
    exec .getstatus s = .next { s with
      status := 0
      tx := s.tx ++ wireFrame s.cken 0x42 0
      waiting := some (.accessor .status)
      result := .none } ∧
    exec .gettrack s = .next { s with
      curtrack := 0
      tx := s.tx ++ wireFrame s.cken 0x4C 0
      waiting := some (.accessor .curtrack)
      result := .none } ∧
    exec .getvol s = .next { s with
      volume := 0
      tx := s.tx ++ wireFrame s.cken 0x43 0
      waiting := some (.accessor .volume)
      result := .none } ∧
    exec .getnum s = .next { s with
      numtracks := 0
      tx := s.tx ++ wireFrame s.cken 0x47 0
      waiting := some (.accessor .numtracks)
      result := .none } ∧
    (∀ v, exec (.setmaxvol v) s = .next { s with
      maxvol := BitVec.ofNat 8 (min v.toNat 30)
      volume := 0
      tx := s.tx ++ wireFrame s.cken 0x43 0
      waiting := some .setMaxVol
      result := .none })

/-- A device that is silent, or that answers with fewer than ten bytes, blocks the engine indefinitely (R159, R127): after
any number of steps the operation still waits, nothing has changed but the bytes that came in, and none of the host's
next operations has been issued. That a blocked RxRead, which has no step in R32, is an endless
run of next states that change only RX and the arrivals is the model's choice (assumption log 3 and 4). -/
def Obligations.UnansweredReadBlocksForever : Prop :=
  ∀ (n : Nat) (s : State), s.Inv → s.waiting ≠ none → (s.rx ++ s.arrivals.flatten).length < 10 →
    runSteps n s = .next { s with rx := s.rx ++ (s.arrivals.take n).flatten, arrivals := s.arrivals.drop n }

/-- A wait ends in the very step in which the tenth byte is there (20_memory.md R32): ten bytes are taken from the front,
no more, and the operation is no longer in flight. -/
def Obligations.WaitEndsWithTenthByte : Prop :=
  ∀ s : State, s.waiting ≠ none → 10 ≤ (s.rx ++ s.arrivals.headD []).length →
    ∃ t, step s = .next t ∧ t.waiting = none ∧ t.rx = (s.rx ++ s.arrivals.headD []).drop 10 ∧ t.ops = s.ops

/-- When the bytes arrive makes no difference to what an operation does: an operation that must wait while the device
delivers chunk after chunk ends, when its tenth byte comes, in exactly the outcome it has when all those bytes are
there at once (R32, R33, R168). -/
def Obligations.ArrivalTimingIsInvisible : Prop :=
  ∀ (i : Instr) (s : State) (chunks : List (List Byte)) (last : List Byte) (later : List (List Byte)),
    readsReply i = true → s.waiting = none → (s.rx ++ chunks.flatten).length < 10 →
    10 ≤ (s.rx ++ chunks.flatten ++ last).length →
    ∃ t, exec i { s with arrivals := chunks ++ last :: later } = .next t ∧ t.waiting ≠ none ∧
      runSteps (chunks.length + 1) t =
        exec i { s with rx := s.rx ++ chunks.flatten ++ last, arrivals := later }

/-! ## Whole-machine rules -/

/-- CKEN changes in no step but one that issues a SETCK (10_state.md R12, R76). -/
def Obligations.OnlySetckChangesCken : Prop :=
  ∀ s t : State, step s = .next t → t.cken ≠ s.cken →
    s.waiting = none ∧ ∃ rest, s.ops = .setck t.cken :: rest

/-- MAXVOL changes in no step but one that issues a SETMAXVOL, to the clamped operand (R17, R111). That it
changes in the issuing step and never when the wait ends rests on storing it before the query, the spec's own decision
D19 (assumption log 14); that SETMAXVOL 0 stores 0 is D14 (assumption log 20), that `v` is 8 bits unsigned D7 (assumption
log 15). -/
def Obligations.OnlySetmaxvolChangesMaxvol : Prop :=
  ∀ s t : State, step s = .next t → t.maxvol ≠ s.maxvol →
    s.waiting = none ∧ ∃ v rest, s.ops = .setmaxvol v :: rest ∧ t.maxvol = BitVec.ofNat 8 (min v.toNat 30)

/-- The cached registers change only by CLR, DEC and the operations that contain them: no ENC, SETCK, VAL, RD, SEND or
fire-and-forget command changes one (20_memory.md R43, 42_commands.md R112). -/
def Obligations.CacheChangesOnlyByClrDecOrQuery : Prop :=
  ∀ s t : State, step s = .next t →
    (t.status ≠ s.status ∨ t.volume ≠ s.volume ∨ t.numtracks ≠ s.numtracks ∨ t.curtrack ≠ s.curtrack) →
    s.waiting ≠ none ∨ ∃ i rest, s.ops = i :: rest ∧ ((∃ r, i = .clr r) ∨ (∃ f, i = .dec f) ∨ readsReply i = true)

/-- TX only grows, by whole frames, at most two a step, each of the length CKEN selects (R23, R31, R37, R61). -/
def Obligations.TxGrowsByWholeFrames : Prop :=
  ∀ s t : State, step s = .next t →
    ∃ ws : List WireItem, ws.length ≤ 2 ∧ (∀ w ∈ ws, w.full = s.cken) ∧ t.tx = s.tx ++ wireStream ws

/-- RX loses nothing but ten bytes at a time from its front, and gains what the device delivered at its end (R33, R37). -/
def Obligations.RxLosesTenBytesOrNone : Prop :=
  ∀ s t : State, step s = .next t →
    t.rx = s.rx ++ s.arrivals.headD [] ∨ ∃ f : Reply, s.rx ++ s.arrivals.headD [] = f.bytes ++ t.rx

/-- A returned result is no state an operation can observe (R19): with another result in its place every operation answers
the same. -/
def Obligations.ResultIsNeverRead : Prop :=
  ∀ (i : Instr) (s : State) (r : Result), exec i { s with result := r } = exec i s
end

