-- ==== Sys2Proof/Laws/Frame.lean ====
section
/-! SUPPORT. What the fields, the formats, the decoder and the encoder of Decode.lean do: one lemma per fact, cited
instead of unfolding them. -/

namespace Sys2Proof

@[simp] theorem hiByte_joinBytes (h l : Byte) : hiByte (joinBytes h l) = h := by
  ext i hi
  have h8 : ¬ 8 + i < 8 := by omega
  have h16 : 8 + i < 16 := by omega
  simp [hiByte, joinBytes, hi, h8, h16]

@[simp] theorem loByte_joinBytes (h l : Byte) : loByte (joinBytes h l) = l := by
  ext i hi
  have h16 : i < 16 := by omega
  simp [loByte, joinBytes, hi, h16]

@[simp] theorem joinBytes_hiByte_loByte (v : Half) : joinBytes (hiByte v) (loByte v) = v := by
  ext i hi
  by_cases h : i < 8
  · simp [hiByte, loByte, joinBytes, h, BitVec.getLsbD_eq_getElem hi]
  · have h8 : i - 8 < 8 := by omega
    have : 8 + (i - 8) = i := by omega
    simp [hiByte, loByte, joinBytes, h, h8, this, hi]

theorem hiByte_toNat (v : Half) : (hiByte v).toNat = v.toNat / 256 := by
  have := v.isLt
  simp [hiByte, Nat.shiftRight_eq_div_pow]
  omega

theorem loByte_toNat (v : Half) : (loByte v).toNat = v.toNat % 256 := by
  simp [loByte]

@[simp] theorem fullFrame_length (c : Byte) (p : Half) : (fullFrame c p).length = 10 := rfl

@[simp] theorem shortFrame_length (c : Byte) (p : Half) : (shortFrame c p).length = 8 := rfl

theorem wireFrame_length (cken : Bool) (c : Byte) (p : Half) :
    (wireFrame cken c p).length = if cken then 10 else 8 := by
  cases cken <;> rfl

/-- The sum of R72 never wraps, so the checksum is its exact negation. -/
theorem frameChecksum_toNat (c : Byte) (p : Half) :
    (frameChecksum c p).toNat = 65536 - (0x105 + c.toNat + (hiByte p).toNat + (loByte p).toNat) := by
  have hc := c.isLt
  have hh := (hiByte p).isLt
  have hl := (loByte p).isLt
  simp [frameChecksum, BitVec.toNat_add, BitVec.toNat_neg]
  omega

/-- CK_HI is never END (R61, R72). -/
theorem hiByte_frameChecksum_ne_end (c : Byte) (p : Half) : hiByte (frameChecksum c p) ≠ endByte := by
  intro h
  have h' := congrArg BitVec.toNat h
  rw [hiByte_toNat, frameChecksum_toNat] at h'
  have hc := c.isLt
  have hh := (hiByte p).isLt
  have hl := (loByte p).isLt
  simp at h'
  omega

@[simp] theorem templateOk_constants :
    templateOk startByte versionByte lengthByte feedbackByte endByte = true := by decide

@[simp] theorem decodeWire_wireFrame (cken : Bool) (c : Byte) (p : Half) :
    decodeWire (wireFrame cken c p) = .ok (decodeCommand c p) := by
  cases cken <;> simp only [wireFrame, fullFrame, shortFrame, decodeWire, templateOk_constants,
    joinBytes_hiByte_loByte, if_true, if_false, Bool.false_eq_true]

@[simp] theorem Reply.ofBytes?_bytes (f : Reply) : Reply.ofBytes? f.bytes = some f := rfl

@[simp] theorem Reply.bytes_length (f : Reply) : f.bytes.length = 10 := rfl

theorem Reply.bytes_of_ofBytes? {bs : List Byte} {f : Reply} (h : Reply.ofBytes? bs = some f) : bs = f.bytes := by
  unfold Reply.ofBytes? at h
  split at h
  · cases h; rfl
  · cases h

/-- What an encoded operation can be: the bytes of its operand, or a wire frame of its COMMAND and PARAMETER. -/
theorem encode_cases {cken : Bool} {maxvol : Byte} {i : Instr} {bs : List Byte} (h : encode cken maxvol i = some bs) :
    (∃ f, i = .val f ∧ bs = f.bytes) ∨ (∃ f, i = .dec f ∧ bs = f.bytes) ∨
    (∃ c p, i.wireFields maxvol = some (c, p) ∧ bs = wireFrame cken c p) := by
  cases i <;> simp [encode, Instr.wireFields] at h ⊢ <;> exact h.symm

theorem find?_code_some {α : Type} {l : List α} {code : α → Half} {p : Half} {e : α}
    (h : l.find? (fun e => code e == p) = some e) : code e = p := by
  simpa using List.find?_some h

/-- A narrow argument puts 0x00 into PARAM_HI and itself into PARAM_LO (R54). -/
@[simp] theorem hiByte_setWidth (b : Byte) : hiByte (b.setWidth 16) = 0 := by
  have := b.isLt
  apply BitVec.eq_of_toNat_eq
  rw [hiByte_toNat]
  simp
  omega

@[simp] theorem loByte_setWidth (b : Byte) : loByte (b.setWidth 16) = b := by
  have := b.isLt
  apply BitVec.eq_of_toNat_eq
  rw [loByte_toNat]
  simp
  omega

@[simp] theorem hiByte_eqCode (e : EqPreset) : hiByte (eqCode e) = 0 := hiByte_setWidth _

@[simp] theorem loByte_eqCode (e : EqPreset) : loByte (eqCode e) = Config.eqCode e := loByte_setWidth _

@[simp] theorem hiByte_modeCode (m : PlayMode) : hiByte (modeCode m) = 0 := by
  cases m
  case singlePlay => decide
  case folderRepeat => decide
  case singleRepeat => exact hiByte_setWidth _
  case random => exact hiByte_setWidth _

theorem eqPresetOf_code {p : Half} {e : EqPreset} (h : eqPresetOf p = some e) : eqCode e = p :=
  find?_code_some h

theorem playModeOf_code {p : Half} {m : PlayMode} (h : playModeOf p = some m) : modeCode m = p :=
  find?_code_some h

theorem eqPresetOf_isSome (e : EqPreset) : ∃ e', eqPresetOf (eqCode e) = some e' := by
  have : (eqPresetOf (eqCode e)).isSome := by
    rw [eqPresetOf, List.find?_isSome]
    cases e <;> simp
  exact Option.isSome_iff_exists.mp this

theorem playModeOf_isSome (m : PlayMode) : ∃ m', playModeOf (modeCode m) = some m' := by
  have : (playModeOf (modeCode m)).isSome := by
    rw [playModeOf, List.find?_isSome]
    cases m <;> simp
  exact Option.isSome_iff_exists.mp this

/-- The operation a COMMAND and a PARAMETER decode to is well formed and puts just these two on the wire. -/
theorem decodeCommand_spec (c : Byte) (p : Half) :
    (decodeCommand c p).wireFields volLimit = some (c, p) ∧ (decodeCommand c p).wf = true := by
  unfold decodeCommand
  by_cases h : c = opPlay
  · rw [if_pos h, h]; exact ⟨rfl, rfl⟩
  rw [if_neg h]; clear h
  by_cases h : c = opSetVol ∧ p ≤ volLimit.setWidth 16
  · rw [if_pos h]
    obtain ⟨rfl, hp⟩ := h
    have hp' : p.toNat ≤ 30 := by simpa [BitVec.le_def] using hp
    have hl : loByte p ≤ volLimit := by rw [BitVec.le_def, loByte_toNat]; simp; omega
    have hz : (loByte p).setWidth 16 = p := by
      apply BitVec.eq_of_toNat_eq; simp [loByte_toNat]; omega
    exact ⟨by rw [Instr.wireFields, if_pos hl, hz], rfl⟩
  rw [if_neg h]; clear h
  by_cases h : c = opSetEq
  · rw [if_pos h, h]
    cases he : eqPresetOf p with
    | none => exact ⟨rfl, rfl⟩
    | some e => exact ⟨by simp only [Instr.wireFields, eqPresetOf_code he], rfl⟩
  rw [if_neg h]; clear h
  by_cases h : c = opSetMode
  · rw [if_pos h, h]
    cases hm : playModeOf p with
    | none => exact ⟨rfl, rfl⟩
    | some m => exact ⟨by simp only [Instr.wireFields, playModeOf_code hm], rfl⟩
  rw [if_neg h]; clear h
  by_cases h : p = 0
  · rw [if_neg (not_not.mpr h), h]; clear h
    by_cases h : c = opNext
    · rw [if_pos h, h]; exact ⟨rfl, rfl⟩
    rw [if_neg h]; clear h
    by_cases h : c = opPrev
    · rw [if_pos h, h]; exact ⟨rfl, rfl⟩
    rw [if_neg h]; clear h
    by_cases h : c = opVolUp
    · rw [if_pos h, h]; exact ⟨rfl, rfl⟩
    rw [if_neg h]; clear h
    by_cases h : c = opVolDn
    · rw [if_pos h, h]; exact ⟨rfl, rfl⟩
    rw [if_neg h]; clear h
    by_cases h : c = opResume
    · rw [if_pos h, h]; exact ⟨rfl, rfl⟩
    rw [if_neg h]; clear h
    by_cases h : c = opPause
    · rw [if_pos h, h]; exact ⟨rfl, rfl⟩
    rw [if_neg h]; clear h
    by_cases h : c = opQStatus
    · rw [if_pos h, h]; exact ⟨rfl, rfl⟩
    rw [if_neg h]; clear h
    by_cases h : c = opQVol
    · rw [if_pos h, h]; exact ⟨rfl, rfl⟩
    rw [if_neg h]; clear h
    by_cases h : c = opQNum
    · rw [if_pos h, h]; exact ⟨rfl, rfl⟩
    rw [if_neg h]; clear h
    by_cases h : c = opQTrack
    · rw [if_pos h, h]; exact ⟨rfl, rfl⟩
    rw [if_neg h]; clear h
    exact ⟨rfl, rfl⟩
  · rw [if_pos h]; exact ⟨rfl, rfl⟩

end Sys2Proof
end

