-- ==== Sys2Proof/Laws/State.lean ====
section
/-! SUPPORT. One lemma per field per named update of the state, true by rfl, so that no proof unfolds a record update. -/

namespace Sys2Proof.Machine

@[simp] theorem State.ret_cken (r : Result) (s : State) : (s.ret r).cken = s.cken := rfl
@[simp] theorem State.ret_status (r : Result) (s : State) : (s.ret r).status = s.status := rfl
@[simp] theorem State.ret_volume (r : Result) (s : State) : (s.ret r).volume = s.volume := rfl
@[simp] theorem State.ret_curtrack (r : Result) (s : State) : (s.ret r).curtrack = s.curtrack := rfl
@[simp] theorem State.ret_numtracks (r : Result) (s : State) : (s.ret r).numtracks = s.numtracks := rfl
@[simp] theorem State.ret_maxvol (r : Result) (s : State) : (s.ret r).maxvol = s.maxvol := rfl
@[simp] theorem State.ret_tx (r : Result) (s : State) : (s.ret r).tx = s.tx := rfl
@[simp] theorem State.ret_rx (r : Result) (s : State) : (s.ret r).rx = s.rx := rfl
@[simp] theorem State.ret_waiting (r : Result) (s : State) : (s.ret r).waiting = s.waiting := rfl
@[simp] theorem State.ret_result (r : Result) (s : State) : (s.ret r).result = r := rfl
@[simp] theorem State.ret_ops (r : Result) (s : State) : (s.ret r).ops = s.ops := rfl
@[simp] theorem State.ret_arrivals (r : Result) (s : State) : (s.ret r).arrivals = s.arrivals := rfl

@[simp] theorem State.setCken_cken (en : Bool) (s : State) : (s.setCken en).cken = en := rfl
@[simp] theorem State.setCken_status (en : Bool) (s : State) : (s.setCken en).status = s.status := rfl
@[simp] theorem State.setCken_volume (en : Bool) (s : State) : (s.setCken en).volume = s.volume := rfl
@[simp] theorem State.setCken_curtrack (en : Bool) (s : State) : (s.setCken en).curtrack = s.curtrack := rfl
@[simp] theorem State.setCken_numtracks (en : Bool) (s : State) : (s.setCken en).numtracks = s.numtracks := rfl
@[simp] theorem State.setCken_maxvol (en : Bool) (s : State) : (s.setCken en).maxvol = s.maxvol := rfl
@[simp] theorem State.setCken_tx (en : Bool) (s : State) : (s.setCken en).tx = s.tx := rfl
@[simp] theorem State.setCken_rx (en : Bool) (s : State) : (s.setCken en).rx = s.rx := rfl
@[simp] theorem State.setCken_waiting (en : Bool) (s : State) : (s.setCken en).waiting = s.waiting := rfl
@[simp] theorem State.setCken_result (en : Bool) (s : State) : (s.setCken en).result = s.result := rfl
@[simp] theorem State.setCken_ops (en : Bool) (s : State) : (s.setCken en).ops = s.ops := rfl
@[simp] theorem State.setCken_arrivals (en : Bool) (s : State) : (s.setCken en).arrivals = s.arrivals := rfl

@[simp] theorem State.setMaxvol_cken (v : Byte) (s : State) : (s.setMaxvol v).cken = s.cken := rfl
@[simp] theorem State.setMaxvol_status (v : Byte) (s : State) : (s.setMaxvol v).status = s.status := rfl
@[simp] theorem State.setMaxvol_volume (v : Byte) (s : State) : (s.setMaxvol v).volume = s.volume := rfl
@[simp] theorem State.setMaxvol_curtrack (v : Byte) (s : State) : (s.setMaxvol v).curtrack = s.curtrack := rfl
@[simp] theorem State.setMaxvol_numtracks (v : Byte) (s : State) : (s.setMaxvol v).numtracks = s.numtracks := rfl
@[simp] theorem State.setMaxvol_maxvol (v : Byte) (s : State) : (s.setMaxvol v).maxvol = v := rfl
@[simp] theorem State.setMaxvol_tx (v : Byte) (s : State) : (s.setMaxvol v).tx = s.tx := rfl
@[simp] theorem State.setMaxvol_rx (v : Byte) (s : State) : (s.setMaxvol v).rx = s.rx := rfl
@[simp] theorem State.setMaxvol_waiting (v : Byte) (s : State) : (s.setMaxvol v).waiting = s.waiting := rfl
@[simp] theorem State.setMaxvol_result (v : Byte) (s : State) : (s.setMaxvol v).result = s.result := rfl
@[simp] theorem State.setMaxvol_ops (v : Byte) (s : State) : (s.setMaxvol v).ops = s.ops := rfl
@[simp] theorem State.setMaxvol_arrivals (v : Byte) (s : State) : (s.setMaxvol v).arrivals = s.arrivals := rfl

@[simp] theorem State.setStatus_cken (v : Byte) (s : State) : (s.setStatus v).cken = s.cken := rfl
@[simp] theorem State.setStatus_status (v : Byte) (s : State) : (s.setStatus v).status = v := rfl
@[simp] theorem State.setStatus_volume (v : Byte) (s : State) : (s.setStatus v).volume = s.volume := rfl
@[simp] theorem State.setStatus_curtrack (v : Byte) (s : State) : (s.setStatus v).curtrack = s.curtrack := rfl
@[simp] theorem State.setStatus_numtracks (v : Byte) (s : State) : (s.setStatus v).numtracks = s.numtracks := rfl
@[simp] theorem State.setStatus_maxvol (v : Byte) (s : State) : (s.setStatus v).maxvol = s.maxvol := rfl
@[simp] theorem State.setStatus_tx (v : Byte) (s : State) : (s.setStatus v).tx = s.tx := rfl
@[simp] theorem State.setStatus_rx (v : Byte) (s : State) : (s.setStatus v).rx = s.rx := rfl
@[simp] theorem State.setStatus_waiting (v : Byte) (s : State) : (s.setStatus v).waiting = s.waiting := rfl
@[simp] theorem State.setStatus_result (v : Byte) (s : State) : (s.setStatus v).result = s.result := rfl
@[simp] theorem State.setStatus_ops (v : Byte) (s : State) : (s.setStatus v).ops = s.ops := rfl
@[simp] theorem State.setStatus_arrivals (v : Byte) (s : State) : (s.setStatus v).arrivals = s.arrivals := rfl

@[simp] theorem State.setVolume_cken (v : Byte) (s : State) : (s.setVolume v).cken = s.cken := rfl
@[simp] theorem State.setVolume_status (v : Byte) (s : State) : (s.setVolume v).status = s.status := rfl
@[simp] theorem State.setVolume_volume (v : Byte) (s : State) : (s.setVolume v).volume = v := rfl
@[simp] theorem State.setVolume_curtrack (v : Byte) (s : State) : (s.setVolume v).curtrack = s.curtrack := rfl
@[simp] theorem State.setVolume_numtracks (v : Byte) (s : State) : (s.setVolume v).numtracks = s.numtracks := rfl
@[simp] theorem State.setVolume_maxvol (v : Byte) (s : State) : (s.setVolume v).maxvol = s.maxvol := rfl
@[simp] theorem State.setVolume_tx (v : Byte) (s : State) : (s.setVolume v).tx = s.tx := rfl
@[simp] theorem State.setVolume_rx (v : Byte) (s : State) : (s.setVolume v).rx = s.rx := rfl
@[simp] theorem State.setVolume_waiting (v : Byte) (s : State) : (s.setVolume v).waiting = s.waiting := rfl
@[simp] theorem State.setVolume_result (v : Byte) (s : State) : (s.setVolume v).result = s.result := rfl
@[simp] theorem State.setVolume_ops (v : Byte) (s : State) : (s.setVolume v).ops = s.ops := rfl
@[simp] theorem State.setVolume_arrivals (v : Byte) (s : State) : (s.setVolume v).arrivals = s.arrivals := rfl

@[simp] theorem State.setNumtracks_cken (v : Half) (s : State) : (s.setNumtracks v).cken = s.cken := rfl
@[simp] theorem State.setNumtracks_status (v : Half) (s : State) : (s.setNumtracks v).status = s.status := rfl
@[simp] theorem State.setNumtracks_volume (v : Half) (s : State) : (s.setNumtracks v).volume = s.volume := rfl
@[simp] theorem State.setNumtracks_curtrack (v : Half) (s : State) : (s.setNumtracks v).curtrack = s.curtrack := rfl
@[simp] theorem State.setNumtracks_numtracks (v : Half) (s : State) : (s.setNumtracks v).numtracks = v := rfl
@[simp] theorem State.setNumtracks_maxvol (v : Half) (s : State) : (s.setNumtracks v).maxvol = s.maxvol := rfl
@[simp] theorem State.setNumtracks_tx (v : Half) (s : State) : (s.setNumtracks v).tx = s.tx := rfl
@[simp] theorem State.setNumtracks_rx (v : Half) (s : State) : (s.setNumtracks v).rx = s.rx := rfl
@[simp] theorem State.setNumtracks_waiting (v : Half) (s : State) : (s.setNumtracks v).waiting = s.waiting := rfl
@[simp] theorem State.setNumtracks_result (v : Half) (s : State) : (s.setNumtracks v).result = s.result := rfl
@[simp] theorem State.setNumtracks_ops (v : Half) (s : State) : (s.setNumtracks v).ops = s.ops := rfl
@[simp] theorem State.setNumtracks_arrivals (v : Half) (s : State) : (s.setNumtracks v).arrivals = s.arrivals := rfl

@[simp] theorem State.setCurtrack_cken (v : Half) (s : State) : (s.setCurtrack v).cken = s.cken := rfl
@[simp] theorem State.setCurtrack_status (v : Half) (s : State) : (s.setCurtrack v).status = s.status := rfl
@[simp] theorem State.setCurtrack_volume (v : Half) (s : State) : (s.setCurtrack v).volume = s.volume := rfl
@[simp] theorem State.setCurtrack_curtrack (v : Half) (s : State) : (s.setCurtrack v).curtrack = v := rfl
@[simp] theorem State.setCurtrack_numtracks (v : Half) (s : State) : (s.setCurtrack v).numtracks = s.numtracks := rfl
@[simp] theorem State.setCurtrack_maxvol (v : Half) (s : State) : (s.setCurtrack v).maxvol = s.maxvol := rfl
@[simp] theorem State.setCurtrack_tx (v : Half) (s : State) : (s.setCurtrack v).tx = s.tx := rfl
@[simp] theorem State.setCurtrack_rx (v : Half) (s : State) : (s.setCurtrack v).rx = s.rx := rfl
@[simp] theorem State.setCurtrack_waiting (v : Half) (s : State) : (s.setCurtrack v).waiting = s.waiting := rfl
@[simp] theorem State.setCurtrack_result (v : Half) (s : State) : (s.setCurtrack v).result = s.result := rfl
@[simp] theorem State.setCurtrack_ops (v : Half) (s : State) : (s.setCurtrack v).ops = s.ops := rfl
@[simp] theorem State.setCurtrack_arrivals (v : Half) (s : State) : (s.setCurtrack v).arrivals = s.arrivals := rfl

@[simp] theorem State.setRx_cken (bs : List Byte) (s : State) : (s.setRx bs).cken = s.cken := rfl
@[simp] theorem State.setRx_status (bs : List Byte) (s : State) : (s.setRx bs).status = s.status := rfl
@[simp] theorem State.setRx_volume (bs : List Byte) (s : State) : (s.setRx bs).volume = s.volume := rfl
@[simp] theorem State.setRx_curtrack (bs : List Byte) (s : State) : (s.setRx bs).curtrack = s.curtrack := rfl
@[simp] theorem State.setRx_numtracks (bs : List Byte) (s : State) : (s.setRx bs).numtracks = s.numtracks := rfl
@[simp] theorem State.setRx_maxvol (bs : List Byte) (s : State) : (s.setRx bs).maxvol = s.maxvol := rfl
@[simp] theorem State.setRx_tx (bs : List Byte) (s : State) : (s.setRx bs).tx = s.tx := rfl
@[simp] theorem State.setRx_rx (bs : List Byte) (s : State) : (s.setRx bs).rx = bs := rfl
@[simp] theorem State.setRx_waiting (bs : List Byte) (s : State) : (s.setRx bs).waiting = s.waiting := rfl
@[simp] theorem State.setRx_result (bs : List Byte) (s : State) : (s.setRx bs).result = s.result := rfl
@[simp] theorem State.setRx_ops (bs : List Byte) (s : State) : (s.setRx bs).ops = s.ops := rfl
@[simp] theorem State.setRx_arrivals (bs : List Byte) (s : State) : (s.setRx bs).arrivals = s.arrivals := rfl

@[simp] theorem State.await_cken (k : Await) (s : State) : (s.await k).cken = s.cken := rfl
@[simp] theorem State.await_status (k : Await) (s : State) : (s.await k).status = s.status := rfl
@[simp] theorem State.await_volume (k : Await) (s : State) : (s.await k).volume = s.volume := rfl
@[simp] theorem State.await_curtrack (k : Await) (s : State) : (s.await k).curtrack = s.curtrack := rfl
@[simp] theorem State.await_numtracks (k : Await) (s : State) : (s.await k).numtracks = s.numtracks := rfl
@[simp] theorem State.await_maxvol (k : Await) (s : State) : (s.await k).maxvol = s.maxvol := rfl
@[simp] theorem State.await_tx (k : Await) (s : State) : (s.await k).tx = s.tx := rfl
@[simp] theorem State.await_rx (k : Await) (s : State) : (s.await k).rx = s.rx := rfl
@[simp] theorem State.await_waiting (k : Await) (s : State) : (s.await k).waiting = some k := rfl
@[simp] theorem State.await_result (k : Await) (s : State) : (s.await k).result = .none := rfl
@[simp] theorem State.await_ops (k : Await) (s : State) : (s.await k).ops = s.ops := rfl
@[simp] theorem State.await_arrivals (k : Await) (s : State) : (s.await k).arrivals = s.arrivals := rfl

@[simp] theorem State.done_cken (s : State) : (s.done).cken = s.cken := rfl
@[simp] theorem State.done_status (s : State) : (s.done).status = s.status := rfl
@[simp] theorem State.done_volume (s : State) : (s.done).volume = s.volume := rfl
@[simp] theorem State.done_curtrack (s : State) : (s.done).curtrack = s.curtrack := rfl
@[simp] theorem State.done_numtracks (s : State) : (s.done).numtracks = s.numtracks := rfl
@[simp] theorem State.done_maxvol (s : State) : (s.done).maxvol = s.maxvol := rfl
@[simp] theorem State.done_tx (s : State) : (s.done).tx = s.tx := rfl
@[simp] theorem State.done_rx (s : State) : (s.done).rx = s.rx := rfl
@[simp] theorem State.done_waiting (s : State) : (s.done).waiting = none := rfl
@[simp] theorem State.done_result (s : State) : (s.done).result = s.result := rfl
@[simp] theorem State.done_ops (s : State) : (s.done).ops = s.ops := rfl
@[simp] theorem State.done_arrivals (s : State) : (s.done).arrivals = s.arrivals := rfl

@[simp] theorem State.setOps_cken (is : List Instr) (s : State) : (s.setOps is).cken = s.cken := rfl
@[simp] theorem State.setOps_status (is : List Instr) (s : State) : (s.setOps is).status = s.status := rfl
@[simp] theorem State.setOps_volume (is : List Instr) (s : State) : (s.setOps is).volume = s.volume := rfl
@[simp] theorem State.setOps_curtrack (is : List Instr) (s : State) : (s.setOps is).curtrack = s.curtrack := rfl
@[simp] theorem State.setOps_numtracks (is : List Instr) (s : State) : (s.setOps is).numtracks = s.numtracks := rfl
@[simp] theorem State.setOps_maxvol (is : List Instr) (s : State) : (s.setOps is).maxvol = s.maxvol := rfl
@[simp] theorem State.setOps_tx (is : List Instr) (s : State) : (s.setOps is).tx = s.tx := rfl
@[simp] theorem State.setOps_rx (is : List Instr) (s : State) : (s.setOps is).rx = s.rx := rfl
@[simp] theorem State.setOps_waiting (is : List Instr) (s : State) : (s.setOps is).waiting = s.waiting := rfl
@[simp] theorem State.setOps_result (is : List Instr) (s : State) : (s.setOps is).result = s.result := rfl
@[simp] theorem State.setOps_ops (is : List Instr) (s : State) : (s.setOps is).ops = is := rfl
@[simp] theorem State.setOps_arrivals (is : List Instr) (s : State) : (s.setOps is).arrivals = s.arrivals := rfl

@[simp] theorem State.txWrite_cken (bs : List Byte) (s : State) : (s.txWrite bs).cken = s.cken := rfl
@[simp] theorem State.txWrite_status (bs : List Byte) (s : State) : (s.txWrite bs).status = s.status := rfl
@[simp] theorem State.txWrite_volume (bs : List Byte) (s : State) : (s.txWrite bs).volume = s.volume := rfl
@[simp] theorem State.txWrite_curtrack (bs : List Byte) (s : State) : (s.txWrite bs).curtrack = s.curtrack := rfl
@[simp] theorem State.txWrite_numtracks (bs : List Byte) (s : State) : (s.txWrite bs).numtracks = s.numtracks := rfl
@[simp] theorem State.txWrite_maxvol (bs : List Byte) (s : State) : (s.txWrite bs).maxvol = s.maxvol := rfl
@[simp] theorem State.txWrite_tx (bs : List Byte) (s : State) : (s.txWrite bs).tx = s.tx ++ bs := rfl
@[simp] theorem State.txWrite_rx (bs : List Byte) (s : State) : (s.txWrite bs).rx = s.rx := rfl
@[simp] theorem State.txWrite_waiting (bs : List Byte) (s : State) : (s.txWrite bs).waiting = s.waiting := rfl
@[simp] theorem State.txWrite_result (bs : List Byte) (s : State) : (s.txWrite bs).result = s.result := rfl
@[simp] theorem State.txWrite_ops (bs : List Byte) (s : State) : (s.txWrite bs).ops = s.ops := rfl
@[simp] theorem State.txWrite_arrivals (bs : List Byte) (s : State) : (s.txWrite bs).arrivals = s.arrivals := rfl

end Sys2Proof.Machine
end

