-- ==== Sys2Proof/Laws/Ops.lean ====
section
/-! SUPPORT. What each shared operation can do, once: cite these instead of unfolding the operations. -/

namespace Sys2Proof.Machine

/-! ## Issue -/

theorem issue_free {s : State} (h : s.waiting = none) (effect : State → State) : issue effect s = .next (effect s) := by
  simp [issue, h]

theorem issue_busy {s : State} {k : Await} (h : s.waiting = some k) (effect : State → State) :
    issue effect s = .refused .operationInFlight := by
  simp [issue, h]

/-- An operation that answers a next state found none in flight and had its effect. -/
theorem issue_next {effect : State → State} {s t : State} (h : issue effect s = .next t) :
    s.waiting = none ∧ t = effect s := by
  cases hw : s.waiting with
  | none => rw [issue_free hw] at h; exact ⟨rfl, (Host.Outcome.next.inj h).symm⟩
  | some k => rw [issue_busy hw] at h; cases h

/-! ## The encoder -/

/-- The pseudocode of ENC gives the frame of the formats, with its length (R51, R52, R61, R70). -/
theorem encodeFrame_eq (cken : Bool) (c : Byte) (p : Half) :
    encodeFrame cken c p = (if cken then 10 else 8, wireFrame cken c p) := by
  cases cken
  · rfl
  · simp [encodeFrame, wireFrame, fullFrame, frameChecksum, zext16]

@[simp] theorem encodeFrame_fst (cken : Bool) (c : Byte) (p : Half) :
    (encodeFrame cken c p).1 = if cken then 10 else 8 := by rw [encodeFrame_eq]

@[simp] theorem encodeFrame_snd (cken : Bool) (c : Byte) (p : Half) :
    (encodeFrame cken c p).2 = wireFrame cken c p := by rw [encodeFrame_eq]

/-! ## SEND: TX grows by one frame, nothing else changes (R100) -/

@[simp] theorem State.send_tx (c : Byte) (p : Half) (s : State) : (s.send c p).tx = s.tx ++ wireFrame s.cken c p := by
  simp [State.send]

theorem State.send_eq (c : Byte) (p : Half) (s : State) : s.send c p = s.txWrite (wireFrame s.cken c p) := by
  simp [State.send]

@[simp] theorem State.send_cken (c : Byte) (p : Half) (s : State) : (s.send c p).cken = s.cken := rfl
@[simp] theorem State.send_status (c : Byte) (p : Half) (s : State) : (s.send c p).status = s.status := rfl
@[simp] theorem State.send_volume (c : Byte) (p : Half) (s : State) : (s.send c p).volume = s.volume := rfl
@[simp] theorem State.send_curtrack (c : Byte) (p : Half) (s : State) : (s.send c p).curtrack = s.curtrack := rfl
@[simp] theorem State.send_numtracks (c : Byte) (p : Half) (s : State) : (s.send c p).numtracks = s.numtracks := rfl
@[simp] theorem State.send_maxvol (c : Byte) (p : Half) (s : State) : (s.send c p).maxvol = s.maxvol := rfl
@[simp] theorem State.send_rx (c : Byte) (p : Half) (s : State) : (s.send c p).rx = s.rx := rfl
@[simp] theorem State.send_waiting (c : Byte) (p : Half) (s : State) : (s.send c p).waiting = s.waiting := rfl
@[simp] theorem State.send_result (c : Byte) (p : Half) (s : State) : (s.send c p).result = s.result := rfl
@[simp] theorem State.send_ops (c : Byte) (p : Half) (s : State) : (s.send c p).ops = s.ops := rfl
@[simp] theorem State.send_arrivals (c : Byte) (p : Half) (s : State) : (s.send c p).arrivals = s.arrivals := rfl

/-! ## CLR: one cached register is zero, nothing else changes (R92) -/

@[simp] theorem State.clear_cken (r : CacheReg) (s : State) : (s.clear r).cken = s.cken := by cases r <;> rfl
@[simp] theorem State.clear_maxvol (r : CacheReg) (s : State) : (s.clear r).maxvol = s.maxvol := by cases r <;> rfl
@[simp] theorem State.clear_tx (r : CacheReg) (s : State) : (s.clear r).tx = s.tx := by cases r <;> rfl
@[simp] theorem State.clear_rx (r : CacheReg) (s : State) : (s.clear r).rx = s.rx := by cases r <;> rfl
@[simp] theorem State.clear_waiting (r : CacheReg) (s : State) : (s.clear r).waiting = s.waiting := by cases r <;> rfl
@[simp] theorem State.clear_result (r : CacheReg) (s : State) : (s.clear r).result = s.result := by cases r <;> rfl
@[simp] theorem State.clear_ops (r : CacheReg) (s : State) : (s.clear r).ops = s.ops := by cases r <;> rfl
@[simp] theorem State.clear_arrivals (r : CacheReg) (s : State) : (s.clear r).arrivals = s.arrivals := by cases r <;> rfl

/-! ## DEC: at most one cached register is written (R88 to R90) -/

/-- Which register `store` writes, by the reply's command byte. -/
theorem State.store_cases (f : Reply) (s : State) :
    (f.command = 0x42 ∧ s.store f = s.setStatus f.dataLo) ∨
    (f.command = 0x43 ∧ s.store f = s.setVolume f.dataLo) ∨
    (f.command = 0x47 ∧ s.store f = s.setNumtracks (joinBytes f.dataHi f.dataLo)) ∨
    (f.command = 0x4C ∧ s.store f = s.setCurtrack (joinBytes f.dataHi f.dataLo)) ∨
    (f.command ≠ 0x42 ∧ f.command ≠ 0x43 ∧ f.command ≠ 0x47 ∧ f.command ≠ 0x4C ∧ s.store f = s) := by
  unfold State.store
  by_cases h1 : f.command = opQStatus
  · exact .inl ⟨h1, if_pos h1⟩
  by_cases h2 : f.command = opQVol
  · exact .inr (.inl ⟨h2, by rw [if_neg h1, if_pos h2]⟩)
  by_cases h3 : f.command = opQNum
  · exact .inr (.inr (.inl ⟨h3, by rw [if_neg h1, if_neg h2, if_pos h3]⟩))
  by_cases h4 : f.command = opQTrack
  · exact .inr (.inr (.inr (.inl ⟨h4, by rw [if_neg h1, if_neg h2, if_neg h3, if_pos h4]⟩)))
  · exact .inr (.inr (.inr (.inr ⟨h1, h2, h3, h4, by rw [if_neg h1, if_neg h2, if_neg h3, if_neg h4]⟩)))

@[simp] theorem State.store_cken (f : Reply) (s : State) : (s.store f).cken = s.cken := by
  unfold State.store; repeat' split
  all_goals rfl
@[simp] theorem State.store_maxvol (f : Reply) (s : State) : (s.store f).maxvol = s.maxvol := by
  unfold State.store; repeat' split
  all_goals rfl
@[simp] theorem State.store_tx (f : Reply) (s : State) : (s.store f).tx = s.tx := by
  unfold State.store; repeat' split
  all_goals rfl
@[simp] theorem State.store_rx (f : Reply) (s : State) : (s.store f).rx = s.rx := by
  unfold State.store; repeat' split
  all_goals rfl
@[simp] theorem State.store_waiting (f : Reply) (s : State) : (s.store f).waiting = s.waiting := by
  unfold State.store; repeat' split
  all_goals rfl
@[simp] theorem State.store_result (f : Reply) (s : State) : (s.store f).result = s.result := by
  unfold State.store; repeat' split
  all_goals rfl
@[simp] theorem State.store_ops (f : Reply) (s : State) : (s.store f).ops = s.ops := by
  unfold State.store; repeat' split
  all_goals rfl
@[simp] theorem State.store_arrivals (f : Reply) (s : State) : (s.store f).arrivals = s.arrivals := by
  unfold State.store; repeat' split
  all_goals rfl

theorem replyOk_iff (f : Reply) : replyOk f = true ↔ f.start = 0x7E ∧ f.length = 0x06 ∧ f.stop = 0xEF := by
  simp [replyOk, and_assoc]

theorem decodeReply_wellFormed {f : Reply} (h : replyOk f = true) (s : State) : decodeReply f s = (true, s.store f) := by
  simp [decodeReply, h]

theorem decodeReply_malformed {f : Reply} (h : replyOk f = false) (s : State) : decodeReply f s = (false, s) := by
  simp [decodeReply, raiseMalformedReply, h]

@[simp] theorem decodeReply_fst (f : Reply) (s : State) : (decodeReply f s).1 = replyOk f := by
  cases h : replyOk f
  · rw [decodeReply_malformed h]
  · rw [decodeReply_wellFormed h]

/-- The state after DEC: the stored one, or the same. -/
theorem decodeReply_snd (f : Reply) (s : State) : (decodeReply f s).2 = if replyOk f then s.store f else s := by
  cases h : replyOk f
  · rw [decodeReply_malformed h]; rfl
  · rw [decodeReply_wellFormed h]; rfl

/-! The fields DEC never writes. -/

@[simp] theorem decodeReply_cken (f : Reply) (s : State) : (decodeReply f s).2.cken = s.cken := by
  rw [decodeReply_snd]; split <;> simp
@[simp] theorem decodeReply_maxvol (f : Reply) (s : State) : (decodeReply f s).2.maxvol = s.maxvol := by
  rw [decodeReply_snd]; split <;> simp
@[simp] theorem decodeReply_tx (f : Reply) (s : State) : (decodeReply f s).2.tx = s.tx := by
  rw [decodeReply_snd]; split <;> simp
@[simp] theorem decodeReply_rx (f : Reply) (s : State) : (decodeReply f s).2.rx = s.rx := by
  rw [decodeReply_snd]; split <;> simp
@[simp] theorem decodeReply_waiting (f : Reply) (s : State) : (decodeReply f s).2.waiting = s.waiting := by
  rw [decodeReply_snd]; split <;> simp
@[simp] theorem decodeReply_result (f : Reply) (s : State) : (decodeReply f s).2.result = s.result := by
  rw [decodeReply_snd]; split <;> simp
@[simp] theorem decodeReply_ops (f : Reply) (s : State) : (decodeReply f s).2.ops = s.ops := by
  rw [decodeReply_snd]; split <;> simp
@[simp] theorem decodeReply_arrivals (f : Reply) (s : State) : (decodeReply f s).2.arrivals = s.arrivals := by
  rw [decodeReply_snd]; split <;> simp

/-! ## RxRead: exactly ten bytes or no step (R32) -/

theorem rxRead_bytes {s : State} {f : Reply} {rest : List Byte} (h : s.rx = f.bytes ++ rest) :
    rxRead s = some (f, s.setRx rest) := by
  simp [rxRead, h, Reply.bytes]

theorem rxRead_short {s : State} (h : s.rx.length < 10) : rxRead s = none := by
  unfold rxRead
  split
  · rename_i heq
    simp [heq] at h
    omega
  · rfl

theorem bytes_of_ten_le {bs : List Byte} (h : 10 ≤ bs.length) : ∃ (f : Reply) (rest : List Byte), bs = f.bytes ++ rest := by
  match bs, h with
  | b0 :: b1 :: b2 :: b3 :: b4 :: b5 :: b6 :: b7 :: b8 :: b9 :: rest, _ =>
    exact ⟨⟨b0, b1, b2, b3, b4, b5, b6, b7, b8, b9⟩, rest, rfl⟩

theorem receive_bytes {s : State} {f : Reply} {rest : List Byte} (k : Await) (h : s.rx = f.bytes ++ rest) :
    receive k s = finish k (replyOk f) (decodeReply f (s.setRx rest)).2.done := by
  simp [receive, rxRead_bytes h]

theorem receive_short {s : State} (k : Await) (h : s.rx.length < 10) : receive k s = s.await k := by
  simp [receive, rxRead_short h]

/-- What `receive` can do: wait on fewer than ten bytes, or take ten, decode them and finish. -/
theorem receive_cases (k : Await) (s : State) :
    (s.rx.length < 10 ∧ receive k s = s.await k) ∨
    (∃ f rest, s.rx = f.bytes ++ rest ∧ receive k s = finish k (replyOk f) (decodeReply f (s.setRx rest)).2.done) := by
  by_cases h : s.rx.length < 10
  · exact .inl ⟨h, receive_short k h⟩
  · obtain ⟨f, rest, hrx⟩ := bytes_of_ten_le (Nat.le_of_not_lt h)
    exact .inr ⟨f, rest, hrx, receive_bytes k hrx⟩

/-! ## finish: the result, and for SETMAXVOL perhaps one frame (R111) -/

@[simp] theorem finish_query (r : CacheReg) (ok : Bool) (s : State) : finish (.query r) ok s = s.ret (.ok ok) := rfl

@[simp] theorem finish_accessor (r : CacheReg) (ok : Bool) (s : State) : finish (.accessor r) ok s = s.ret (s.read r) := rfl

theorem finish_setMaxVol_below {s : State} (h : s.maxvol < s.volume) (ok : Bool) :
    finish .setMaxVol ok s = (s.sendVolume s.maxvol).ret .none := by
  simp [finish, h]

theorem finish_setMaxVol_notBelow {s : State} (h : ¬ s.maxvol < s.volume) (ok : Bool) :
    finish .setMaxVol ok s = s.ret .none := by
  simp [finish, h]

/-- `finish` presents a result and sends nothing, or it is SETMAXVOL and sends one set-volume frame. -/
theorem finish_cases (k : Await) (ok : Bool) (s : State) :
    (∃ r, finish k ok s = s.ret r) ∨ (k = .setMaxVol ∧ s.maxvol < s.volume ∧
      finish k ok s = (s.send opSetVol (zext16 (clampVolume s.maxvol s.maxvol))).ret .none) := by
  cases k with
  | query r => exact .inl ⟨_, rfl⟩
  | accessor r => exact .inl ⟨_, rfl⟩
  | setMaxVol =>
    by_cases h : s.maxvol < s.volume
    · exact .inr ⟨rfl, h, finish_setMaxVol_below h ok⟩
    · exact .inl ⟨_, finish_setMaxVol_notBelow h ok⟩

/-! The fields `finish` never writes. -/

@[simp] theorem finish_cken (k : Await) (ok : Bool) (s : State) : (finish k ok s).cken = s.cken := by
  rcases finish_cases k ok s with ⟨r, h⟩ | ⟨_, _, h⟩ <;> rw [h] <;> simp
@[simp] theorem finish_status (k : Await) (ok : Bool) (s : State) : (finish k ok s).status = s.status := by
  rcases finish_cases k ok s with ⟨r, h⟩ | ⟨_, _, h⟩ <;> rw [h] <;> simp
@[simp] theorem finish_volume (k : Await) (ok : Bool) (s : State) : (finish k ok s).volume = s.volume := by
  rcases finish_cases k ok s with ⟨r, h⟩ | ⟨_, _, h⟩ <;> rw [h] <;> simp
@[simp] theorem finish_curtrack (k : Await) (ok : Bool) (s : State) : (finish k ok s).curtrack = s.curtrack := by
  rcases finish_cases k ok s with ⟨r, h⟩ | ⟨_, _, h⟩ <;> rw [h] <;> simp
@[simp] theorem finish_numtracks (k : Await) (ok : Bool) (s : State) : (finish k ok s).numtracks = s.numtracks := by
  rcases finish_cases k ok s with ⟨r, h⟩ | ⟨_, _, h⟩ <;> rw [h] <;> simp
@[simp] theorem finish_maxvol (k : Await) (ok : Bool) (s : State) : (finish k ok s).maxvol = s.maxvol := by
  rcases finish_cases k ok s with ⟨r, h⟩ | ⟨_, _, h⟩ <;> rw [h] <;> simp
@[simp] theorem finish_rx (k : Await) (ok : Bool) (s : State) : (finish k ok s).rx = s.rx := by
  rcases finish_cases k ok s with ⟨r, h⟩ | ⟨_, _, h⟩ <;> rw [h] <;> simp
@[simp] theorem finish_waiting (k : Await) (ok : Bool) (s : State) : (finish k ok s).waiting = s.waiting := by
  rcases finish_cases k ok s with ⟨r, h⟩ | ⟨_, _, h⟩ <;> rw [h] <;> simp
@[simp] theorem finish_ops (k : Await) (ok : Bool) (s : State) : (finish k ok s).ops = s.ops := by
  rcases finish_cases k ok s with ⟨r, h⟩ | ⟨_, _, h⟩ <;> rw [h] <;> simp
@[simp] theorem finish_arrivals (k : Await) (ok : Bool) (s : State) : (finish k ok s).arrivals = s.arrivals := by
  rcases finish_cases k ok s with ⟨r, h⟩ | ⟨_, _, h⟩ <;> rw [h] <;> simp

/-! The fields `receive` never writes. -/

@[simp] theorem receive_cken (k : Await) (s : State) : (receive k s).cken = s.cken := by
  rcases receive_cases k s with ⟨_, h⟩ | ⟨f, rest, _, h⟩ <;> rw [h] <;> simp
@[simp] theorem receive_maxvol (k : Await) (s : State) : (receive k s).maxvol = s.maxvol := by
  rcases receive_cases k s with ⟨_, h⟩ | ⟨f, rest, _, h⟩ <;> rw [h] <;> simp
@[simp] theorem receive_ops (k : Await) (s : State) : (receive k s).ops = s.ops := by
  rcases receive_cases k s with ⟨_, h⟩ | ⟨f, rest, _, h⟩ <;> rw [h] <;> simp
@[simp] theorem receive_arrivals (k : Await) (s : State) : (receive k s).arrivals = s.arrivals := by
  rcases receive_cases k s with ⟨_, h⟩ | ⟨f, rest, _, h⟩ <;> rw [h] <;> simp

/-! ## What is returned, and what waits, is not read again (R19) -/

theorem store_ret (f : Reply) (r : Result) (s : State) : (s.ret r).store f = (s.store f).ret r := by
  unfold State.store
  repeat' split
  all_goals rfl

theorem store_done (f : Reply) (s : State) : s.done.store f = (s.store f).done := by
  unfold State.store
  repeat' split
  all_goals rfl

theorem decodeReply_ret (f : Reply) (r : Result) (s : State) :
    (decodeReply f (s.ret r)).2 = (decodeReply f s).2.ret r := by
  rw [decodeReply_snd, decodeReply_snd, store_ret]
  split <;> rfl

theorem decodeReply_done (f : Reply) (s : State) : (decodeReply f s.done).2 = (decodeReply f s).2.done := by
  rw [decodeReply_snd, decodeReply_snd, store_done]
  split <;> rfl

theorem finish_ret (k : Await) (ok : Bool) (r : Result) (s : State) : finish k ok (s.ret r) = finish k ok s := by
  cases k with
  | query r => rfl
  | accessor c => cases c <;> rfl
  | setMaxVol =>
    by_cases h : s.maxvol < s.volume
    · rw [finish_setMaxVol_below h, finish_setMaxVol_below (by exact h)]; rfl
    · rw [finish_setMaxVol_notBelow h, finish_setMaxVol_notBelow (by exact h)]; rfl

theorem receive_ret (k : Await) (r : Result) (s : State) : receive k (s.ret r) = receive k s := by
  rcases receive_cases k s with ⟨h, he⟩ | ⟨f, rest, h, he⟩
  · rw [he, receive_short k (by exact h)]; rfl
  · rw [he, receive_bytes (f := f) (rest := rest) k (by exact h)]
    change finish k _ (decodeReply f ((s.setRx rest).ret r)).2.done = _
    rw [decodeReply_ret]
    exact finish_ret k _ r (decodeReply f (s.setRx rest)).2.done

/-- An operation that has waited goes on as if it had not. -/
theorem receive_await (k k' : Await) (s : State) : receive k (s.await k') = receive k s := by
  rcases receive_cases k s with ⟨h, he⟩ | ⟨f, rest, h, he⟩
  · rw [he, receive_short k (by exact h)]; rfl
  · rw [he, receive_bytes (f := f) (rest := rest) k (by exact h)]
    rw [← decodeReply_done, ← decodeReply_done]
    change finish k _ (decodeReply f ((s.setRx rest).done.ret .none)).2 = _
    rw [decodeReply_ret, finish_ret]

/-! ## Clamping (R106, R111, R114) -/

theorem minByte_le_left (a b : Byte) : minByte a b ≤ a := by
  unfold minByte
  split
  · exact BitVec.le_refl a
  · rename_i h
    exact BitVec.le_of_lt (BitVec.not_le.mp h)

theorem minByte_le_right (a b : Byte) : minByte a b ≤ b := by
  unfold minByte
  split
  · assumption
  · exact BitVec.le_refl b

@[simp] theorem clampVolume_self (m : Byte) : clampVolume m m = m := by
  simp [clampVolume, minByte]

theorem clampVolume_le (m v : Byte) : clampVolume m v ≤ m := minByte_le_right v m

theorem clampCeiling_le (v : Byte) : clampCeiling v ≤ 30 := minByte_le_right v volLimit

theorem minByte_toNat (a b : Byte) : (minByte a b).toNat = min a.toNat b.toNat := by
  unfold minByte
  split <;> rename_i h <;> rw [BitVec.le_def] at h <;> omega

/-! ## Arrivals and the step -/

theorem deliver_eq (s : State) :
    s.deliver = { s with rx := s.rx ++ s.arrivals.headD [], arrivals := s.arrivals.tail } := by
  cases h : s.arrivals with
  | nil => cases s; simp_all [State.deliver]
  | cons c cs => simp [State.deliver, h]

theorem deliver_rx (s : State) : s.deliver.rx = s.rx ++ s.arrivals.headD [] := by
  unfold State.deliver; split <;> simp_all
theorem deliver_arrivals (s : State) : s.deliver.arrivals = s.arrivals.tail := by
  unfold State.deliver; split <;> simp_all
@[simp] theorem deliver_cken (s : State) : s.deliver.cken = s.cken := by unfold State.deliver; split <;> rfl
@[simp] theorem deliver_status (s : State) : s.deliver.status = s.status := by unfold State.deliver; split <;> rfl
@[simp] theorem deliver_volume (s : State) : s.deliver.volume = s.volume := by unfold State.deliver; split <;> rfl
@[simp] theorem deliver_curtrack (s : State) : s.deliver.curtrack = s.curtrack := by unfold State.deliver; split <;> rfl
@[simp] theorem deliver_numtracks (s : State) : s.deliver.numtracks = s.numtracks := by unfold State.deliver; split <;> rfl
@[simp] theorem deliver_maxvol (s : State) : s.deliver.maxvol = s.maxvol := by unfold State.deliver; split <;> rfl
@[simp] theorem deliver_tx (s : State) : s.deliver.tx = s.tx := by unfold State.deliver; split <;> rfl
@[simp] theorem deliver_waiting (s : State) : s.deliver.waiting = s.waiting := by unfold State.deliver; split <;> rfl
@[simp] theorem deliver_result (s : State) : s.deliver.result = s.result := by unfold State.deliver; split <;> rfl
@[simp] theorem deliver_ops (s : State) : s.deliver.ops = s.ops := by unfold State.deliver; split <;> rfl

theorem nextOp_eq_some {s t : State} {i : Instr} (h : nextOp s = some (i, t)) :
    ∃ rest, s.ops = i :: rest ∧ t = s.setOps rest := by
  unfold nextOp at h
  split at h
  · cases h
  · rename_i j rest heq
    cases h
    exact ⟨rest, heq, rfl⟩

/-- What a step can be: an operation in flight goes on; the host issues its next operation; or nothing is to do. -/
theorem step_cases (s : State) :
    (∃ k, s.waiting = some k ∧ step s = .next (receive k s.deliver)) ∨
    (∃ i rest, s.waiting = none ∧ s.ops = i :: rest ∧ step s = exec i (s.deliver.setOps rest)) ∨
    (s.waiting = none ∧ s.ops = [] ∧ step s = .next s.deliver) := by
  cases hw : s.waiting with
  | some k => exact .inl ⟨k, rfl, by simp [step, hw]⟩
  | none =>
    cases ho : s.ops with
    | nil => exact .inr (.inr ⟨rfl, rfl, by simp [step, nextOp, hw, ho]⟩)
    | cons i rest => exact .inr (.inl ⟨i, rest, rfl, rfl, by simp [step, nextOp, hw, ho]⟩)

/-! ## The meanings as effects

Every meaning is an issue of one effect: the inversion lemma of exec. -/

/-- The effect of each operation on a free machine. -/
def effectOf : Instr → State → State
  | .enc c p, s => s.ret (.frame (encodeFrame s.cken c p).1 (encodeFrame s.cken c p).2)
  | .next, s => (s.send opNext 0).ret .none
  | .prev, s => (s.send opPrev 0).ret .none
  | .play t, s => (s.send opPlay t).ret .none
  | .volup, s => (s.send opVolUp 0).ret .none
  | .voldn, s => (s.send opVolDn 0).ret .none
  | .setvol v, s => (s.sendVolume v).ret .none
  | .seteq e, s => (s.send opSetEq (eqCode e)).ret .none
  | .setmode m, s => (s.send opSetMode (modeCode m)).ret .none
  | .resume, s => (s.send opResume 0).ret .none
  | .pause, s => (s.send opPause 0).ret .none
  | .qstatus, s => runQuery opQStatus .status (.query .status) s
  | .qvol, s => runQuery opQVol .volume (.query .volume) s
  | .qnum, s => runQuery opQNum .numtracks (.query .numtracks) s
  | .qtrack, s => runQuery opQTrack .curtrack (.query .curtrack) s
  | .val f, s => s.ret (.ok (replyOk f))
  | .dec f, s => (decodeReply f s).2.ret (.ok (decodeReply f s).1)
  | .setck en, s => (s.setCken en).ret .none
  | .clr r, s => (s.clear r).ret .none
  | .rd r, s => s.ret (s.read r)
  | .send c p, s => (s.send c p).ret .none
  | .setmaxvol v, s => runQuery opQVol .volume .setMaxVol (s.setMaxvol (clampCeiling v))
  | .query q r, s => runQuery q r (.query r) s
  | .getstatus, s => runQuery opQStatus .status (.accessor .status) s
  | .getvol, s => runQuery opQVol .volume (.accessor .volume) s
  | .getnum, s => runQuery opQNum .numtracks (.accessor .numtracks) s
  | .gettrack, s => runQuery opQTrack .curtrack (.accessor .curtrack) s

theorem exec_eq_issue (i : Instr) (s : State) : exec i s = issue (effectOf i) s := by
  cases i <;> rfl

/-- An operation that answers a next state found none in flight and had its effect. -/
theorem exec_next {i : Instr} {s t : State} (h : exec i s = .next t) : s.waiting = none ∧ t = effectOf i s :=
  issue_next (exec_eq_issue i s ▸ h)

end Sys2Proof.Machine
end

