-- ==== Sys2Proof/Laws/PerInstr.lean ====
section
/-! SUPPORT. Statements about every operation as syntax, one lemma per constructor. -/

namespace Sys2Proof.Laws.FrameLength

/-- An operation's frame has one of the lengths of 30_encoding.md R50: ten bytes, or eight on the wire when CKEN = 0. -/
def Statement (i : Instr) : Prop :=
  ∀ (cken : Bool) (maxvol : Byte) (bs : List Byte), encode cken maxvol i = some bs →
    bs.length = 10 ∨ (bs.length = 8 ∧ cken = false ∧ i.port = .wire)

/-- A frame of the wire has one of the two lengths. -/
theorem of_wireFields {i : Instr} (hp : i.port = .wire)
    (h : ∀ cken maxvol, encode cken maxvol i = (i.wireFields maxvol).map fun cp => wireFrame cken cp.1 cp.2) : Statement i := by
  intro cken maxvol bs hb
  rw [h, Option.map_eq_some_iff] at hb
  obtain ⟨cp, -, rfl⟩ := hb
  rw [wireFrame_length]
  cases cken
  · exact .inr ⟨rfl, rfl, hp⟩
  · exact .inl rfl

/-- The frame of VAL and DEC is its operand. -/
theorem of_reply {i : Instr} {f : Reply} (h : ∀ cken maxvol, encode cken maxvol i = some f.bytes) : Statement i := by
  intro cken maxvol bs hb
  rw [h] at hb
  cases hb
  exact .inl (Reply.bytes_length f)

theorem enc (c : Byte) (p : Half) : Statement (.enc c p) := of_wireFields rfl fun _ _ => rfl
theorem next : Statement (.next) := of_wireFields rfl fun _ _ => rfl
theorem prev : Statement (.prev) := of_wireFields rfl fun _ _ => rfl
theorem play (t : Half) : Statement (.play t) := of_wireFields rfl fun _ _ => rfl
theorem volup : Statement (.volup) := of_wireFields rfl fun _ _ => rfl
theorem voldn : Statement (.voldn) := of_wireFields rfl fun _ _ => rfl
theorem setvol (v : Byte) : Statement (.setvol v) := of_wireFields rfl fun _ _ => rfl
theorem seteq (e : EqPreset) : Statement (.seteq e) := of_wireFields rfl fun _ _ => rfl
theorem setmode (m : PlayMode) : Statement (.setmode m) := of_wireFields rfl fun _ _ => rfl
theorem resume : Statement (.resume) := of_wireFields rfl fun _ _ => rfl
theorem pause : Statement (.pause) := of_wireFields rfl fun _ _ => rfl
theorem qstatus : Statement (.qstatus) := of_wireFields rfl fun _ _ => rfl
theorem qvol : Statement (.qvol) := of_wireFields rfl fun _ _ => rfl
theorem qnum : Statement (.qnum) := of_wireFields rfl fun _ _ => rfl
theorem qtrack : Statement (.qtrack) := of_wireFields rfl fun _ _ => rfl
theorem val (f : Reply) : Statement (.val f) := of_reply fun _ _ => rfl
theorem dec (f : Reply) : Statement (.dec f) := of_reply fun _ _ => rfl
theorem setck (en : Bool) : Statement (.setck en) := of_wireFields rfl fun _ _ => rfl
theorem clr (r : CacheReg) : Statement (.clr r) := of_wireFields rfl fun _ _ => rfl
theorem rd (r : CacheReg) : Statement (.rd r) := of_wireFields rfl fun _ _ => rfl
theorem send (c : Byte) (p : Half) : Statement (.send c p) := of_wireFields rfl fun _ _ => rfl
theorem setmaxvol (v : Byte) : Statement (.setmaxvol v) := of_wireFields rfl fun _ _ => rfl
theorem query (q : Byte) (r : CacheReg) : Statement (.query q r) := of_wireFields rfl fun _ _ => rfl
theorem getstatus : Statement (.getstatus) := of_wireFields rfl fun _ _ => rfl
theorem getvol : Statement (.getvol) := of_wireFields rfl fun _ _ => rfl
theorem getnum : Statement (.getnum) := of_wireFields rfl fun _ _ => rfl
theorem gettrack : Statement (.gettrack) := of_wireFields rfl fun _ _ => rfl

end Sys2Proof.Laws.FrameLength
end

