-- ==== Sys2Proof/Laws/Run.lean ====
section
/-! SUPPORT. Runs of several steps, one step at a time. -/

namespace Sys2Proof.Machine

@[simp] theorem runSteps_zero (s : State) : runSteps 0 s = .next s := rfl

theorem runSteps_succ {s t : State} (n : Nat) (h : step s = .next t) : runSteps (n + 1) s = runSteps n t := by
  simp only [runSteps, h]

/-- The run of Safety.lean is the host's run of this machine. -/
theorem runSteps_eq_core_run (n : Nat) (s : State) : Host.Core.run core n s = runSteps n s := by
  induction n generalizing s with
  | zero => rfl
  | succ n ih =>
    have hc : core.step s = step s := rfl
    cases h : step s with
    | next t =>
      rw [h] at hc
      rw [runSteps_succ n h, ← ih]
      simp only [Host.Core.run, hc]
    | fault r => exact nomatch r
    | refused r =>
      rw [h] at hc
      simp only [Host.Core.run, runSteps, hc, h]
      rfl

end Sys2Proof.Machine
end

