-- ==== Sys2Proof/Laws/Wire.lean ====
section
/-! SUPPORT. The reader of the wire on one frame and the rest. -/

namespace Sys2Proof.Machine

@[simp] theorem wireStream_nil : wireStream [] = [] := rfl

@[simp] theorem wireStream_cons (w : WireItem) (ws : List WireItem) : wireStream (w :: ws) = w.bytes ++ wireStream ws := rfl

theorem wireStream_append (ws vs : List WireItem) : wireStream (ws ++ vs) = wireStream ws ++ wireStream vs := by
  simp [wireStream]

/-- A SHORT frame is taken off the front. -/
theorem readWire_short (c : Byte) (p : Half) (rest : List Byte) :
    readWire (shortFrame c p ++ rest) = (readWire rest).map (⟨false, c, p⟩ :: ·) := by
  simp only [shortFrame, List.cons_append, List.nil_append]
  rw [readWire.eq_def]
  simp only [if_true, templateOk_constants, joinBytes_hiByte_loByte]

/-- A FULL frame is taken off the front. -/
theorem readWire_full (c : Byte) (p : Half) (rest : List Byte) :
    readWire (fullFrame c p ++ rest) = (readWire rest).map (⟨true, c, p⟩ :: ·) := by
  simp only [fullFrame, List.cons_append, List.nil_append]
  rw [readWire.eq_def]
  simp only [if_neg (hiByte_frameChecksum_ne_end c p), templateOk_constants, joinBytes_hiByte_loByte, beq_self_eq_true,
    Bool.and_self, if_true]

end Sys2Proof.Machine
end

