-- ==== Sys2Proof/Tests/Slice0.lean ====
section
/-! SUPPORT. The model's own tests. Expected values are the frames and vectors of 95_test_vectors.md and the worked
examples of the rules named; none was computed by the model. Then the witnesses of the statements' hypotheses. -/

namespace Sys2Proof.Tests

open Sys2Proof Sys2Proof.Machine

/-! ## Well-formedness: the one check, refused and passed (43_queries.md R120) -/

theorem test_wf_query_wrong_register : (Instr.query 0x42 .volume).wf = false := by decide
theorem test_wf_query_own_register : (Instr.query 0x42 .status).wf = true := by decide

/-! ## Decoding: words written out from opcode_table.json's patterns, and whole frames of 95_test_vectors.md -/

theorem test_decode_next_bits : decodeTableWord 80 0b01111110111111110000011000000001000000000000000000000000111111101111101011101111 = some .next := by decide
theorem test_decode_play_bits : decodeTableWord 80 0b01111110111111110000011000000011000000000000000000000101111111101111001111101111 = some (.play 5) := by decide
theorem test_decode_qstatus_bits : decodeTableWord 80 0b01111110111111110000011001000010000000000000000000000000111111101011100111101111 = some .qstatus := by decide
theorem test_decode_enc_bits : decodeTableWord 80 0b01111110111111110000011011101111000000001110111111101111111111000010111011101111 = some (.enc 0xEF 0xEFEF) := by decide
theorem test_decode_dec_bits : decodeTableWord 80 0b01111110000000000000011001001100000000010000000000000111000000000000000011101111 = some (.dec ⟨0x7E, 0x00, 0x06, 0x4C, 0x01, 0x00, 0x07, 0x00, 0x00, 0xEF⟩) := by decide
theorem test_decode_val_bits : decodeTableWord 80 0b01111110000000000000011000000000000000000000000000000000000000000000000011101111 = some (.val ⟨0x7E, 0x00, 0x06, 0x00, 0x00, 0x00, 0x00, 0x00, 0x00, 0xEF⟩) := by decide
theorem test_decode_pause_short_bits : decodeTableWord 64 0b0111111011111111000001100000111000000000000000000000000011101111 = some .pause := by decide
theorem test_decode_prev : decodeTableWord 80 0x7EFF0602000000FEF9EF = some .prev := by decide
theorem test_decode_volup : decodeTableWord 80 0x7EFF0604000000FEF7EF = some .volup := by decide
theorem test_decode_voldn : decodeTableWord 80 0x7EFF0605000000FEF6EF = some .voldn := by decide
theorem test_decode_setvol : decodeTableWord 80 0x7EFF0606000014FEE1EF = some (.setvol 20) := by decide
theorem test_decode_setmode : decodeTableWord 80 0x7EFF0608000001FEF2EF = some (.setmode .singlePlay) := by decide
theorem test_decode_resume : decodeTableWord 80 0x7EFF060D000000FEEEEF = some .resume := by decide
theorem test_decode_qvol : decodeTableWord 80 0x7EFF0643000000FEB8EF = some .qvol := by decide
theorem test_decode_qnum : decodeTableWord 80 0x7EFF0647000000FEB4EF = some .qnum := by decide
theorem test_decode_qtrack : decodeTableWord 80 0x7EFF064C000000FEAFEF = some .qtrack := by decide

/-- A SETEQ frame gives back a preset with its code, whatever the open table is (R107). -/
theorem test_decode_seteq : ∃ e, decode .wire (wireFrame true 0x07 (eqCode .bass)) = .ok (.seteq e) ∧
    eqCode e = eqCode .bass := by
  obtain ⟨e, he⟩ := eqPresetOf_isSome .bass
  refine ⟨e, ?_, eqPresetOf_code he⟩
  rw [decode, decodeWire_wireFrame, decodeCommand, he]
  simp

/-- Ten bytes that are no reply still are an operand of DEC: the malformed row (R60). -/
theorem test_decode_malformed : decodeTableWord 80 0x7DFF06420000010000EF = some (.dec ⟨0x7D, 0xFF, 0x06, 0x42, 0x00, 0x00, 0x01, 0x00, 0x00, 0xEF⟩) := by decide

/-- A volume above 30 is no SETVOL frame: the row's parameter is "a value 0..30". -/
theorem test_decode_setvol_above_ceiling : decodeTableWord 80 0x7EFF060600001FFED6EF = some (.enc 0x06 0x001F) := by decide

/-- Other lengths and broken templates are rejected by name. -/
theorem test_decode_rejects_length : decode .wire [0x7E, 0xFF, 0x06] = .error (.wrongLength 3) := rfl
theorem test_decode_rejects_template :
    decode .wire [0x7E, 0xFF, 0x06, 0x01, 0x01, 0x00, 0x00, 0xEF] = .error .notOutgoing := rfl
theorem test_decode_rejects_short_reply :
    decode .val [0x7E, 0xFF, 0x06, 0x01, 0x00, 0x00, 0x00, 0xEF] = .error (.wrongLength 8) := rfl
theorem test_decode_table_rejects_width : decodeTableWord 16 0x7EFF = none := by decide

/-! ## Encoding -/

theorem test_encode_setvol_clamps : encode true 20 (.setvol 25) = some [0x7E, 0xFF, 0x06, 0x06, 0x00, 0x00, 0x14, 0xFE, 0xE1, 0xEF] := by decide
theorem test_encode_short : encode false 30 (.play 0x0102) = some [0x7E, 0xFF, 0x06, 0x03, 0x00, 0x01, 0x02, 0xEF] := by decide
theorem test_encode_none : encode true 30 (.clr .volume) = none := rfl

/-! ## One step of each operation

The start state is that of 95_test_vectors.md part 3: marker values that an unintended write would change. -/

def markers : State where
  cken := true
  status := 0xAA
  volume := 0xBB
  curtrack := 0xDDDD
  numtracks := 0xCCCC
  maxvol := 30
  tx := []
  rx := []
  waiting := none
  result := .none
  ops := []
  arrivals := []

/-- The state an outcome answers, if it answers one. -/
def after : Out → Option State
  | .next t => some t
  | .fault _ => none
  | .refused _ => none

/-- What an operation sends from a state. -/
def sent (i : Instr) (s : State) : Option (List Byte) := (after (exec i s)).map State.tx

/-- What an operation returns from a state. -/
def returned (i : Instr) (s : State) : Option Result := (after (exec i s)).map State.result

/-- The marker state with bytes in RX. -/
def withRx (bs : List Byte) : State := { markers with rx := bs }

theorem test_enc_largest_sum : returned (.enc 0xFF 0xFFFF) markers =
    some (.frame 10 [0x7E, 0xFF, 0x06, 0xFF, 0x00, 0xFF, 0xFF, 0xFB, 0xFE, 0xEF]) := by decide
theorem test_enc_short : returned (.enc 0x7E 0x7E7E) (markers.setCken false) =
    some (.frame 8 [0x7E, 0xFF, 0x06, 0x7E, 0x00, 0x7E, 0x7E, 0xEF]) := by decide
theorem test_setck : (after (exec (.setck false) markers)).map State.cken = some false := by decide
theorem test_val_version_unchecked : returned (.val ⟨0x7E, 0x00, 0x06, 0xFF, 0xFF, 0xFF, 0xFF, 0xFF, 0xFF, 0xEF⟩) markers = some (.ok true) := by decide
theorem test_val_shifted_frame : returned (.val ⟨0xFF, 0x7E, 0xFF, 0x06, 0x4C, 0x00, 0x00, 0x05, 0xFE, 0xAA⟩) markers = some (.ok false) := by decide
theorem test_dec_track : after (exec (.dec ⟨0x7E, 0xFF, 0x06, 0x4C, 0x00, 0x27, 0x0F, 0xFE, 0x79, 0xEF⟩) markers) =
    some ({ markers with curtrack := 0x270F, result := .ok true }) := by decide
theorem test_dec_status_ignores_byte5 : after (exec (.dec ⟨0x7E, 0xFF, 0x06, 0x42, 0x00, 0x12, 0x34, 0x00, 0x00, 0xEF⟩) markers) =
    some ({ markers with status := 0x34, result := .ok true }) := by decide
theorem test_clr_volume : after (exec (.clr .volume) markers) = some ({ markers with volume := 0 }) := by decide
theorem test_rd_curtrack : returned (.rd .curtrack) markers = some (.half 0xDDDD) := by decide
theorem test_send : sent (.send 0xFA 0) markers = some [0x7E, 0xFF, 0x06, 0xFA, 0x00, 0x00, 0x00, 0xFE, 0x01, 0xEF] := by decide
theorem test_next : sent (.next) markers = some [0x7E, 0xFF, 0x06, 0x01, 0x00, 0x00, 0x00, 0xFE, 0xFA, 0xEF] := by decide
theorem test_prev : sent (.prev) markers = some [0x7E, 0xFF, 0x06, 0x02, 0x00, 0x00, 0x00, 0xFE, 0xF9, 0xEF] := by decide
theorem test_play_9999 : sent (.play 9999) markers = some [0x7E, 0xFF, 0x06, 0x03, 0x00, 0x27, 0x0F, 0xFE, 0xC2, 0xEF] := by decide
theorem test_volup : sent (.volup) markers = some [0x7E, 0xFF, 0x06, 0x04, 0x00, 0x00, 0x00, 0xFE, 0xF7, 0xEF] := by decide
theorem test_voldn : sent (.voldn) markers = some [0x7E, 0xFF, 0x06, 0x05, 0x00, 0x00, 0x00, 0xFE, 0xF6, 0xEF] := by decide
theorem test_setvol_clamped : sent (.setvol 35) markers = some [0x7E, 0xFF, 0x06, 0x06, 0x00, 0x00, 0x1E, 0xFE, 0xD7, 0xEF] := by decide
theorem test_setmode : sent (.setmode .folderRepeat) markers = some [0x7E, 0xFF, 0x06, 0x08, 0x00, 0x00, 0x01, 0xFE, 0xF2, 0xEF] := by decide
theorem test_resume : sent (.resume) markers = some [0x7E, 0xFF, 0x06, 0x0D, 0x00, 0x00, 0x00, 0xFE, 0xEE, 0xEF] := by decide
theorem test_pause : sent (.pause) markers = some [0x7E, 0xFF, 0x06, 0x0E, 0x00, 0x00, 0x00, 0xFE, 0xED, 0xEF] := by decide
theorem test_setvol_maxvol_zero : sent (.setvol 7) (markers.setMaxvol 0) = some [0x7E, 0xFF, 0x06, 0x06, 0x00, 0x00, 0x00, 0xFE, 0xF5, 0xEF] := by decide
theorem test_seteq : sent (.seteq .rock) markers = some (wireFrame true 0x07 (eqCode .rock)) := rfl
theorem test_query_other_kind : after (exec (.query 0x43 .volume) (withRx [0x7E, 0xFF, 0x06, 0x42, 0x00, 0x00, 0x01, 0xFE, 0xB8, 0xEF])) = some ({ markers with
    volume := 0x00
    status := 0x01
    result := .ok true
    tx := [0x7E, 0xFF, 0x06, 0x43, 0x00, 0x00, 0x00, 0xFE, 0xB8, 0xEF] }) := by decide
theorem test_qstatus : after (exec (.qstatus) (withRx [0x7E, 0xFF, 0x06, 0x42, 0x00, 0x00, 0x01, 0xFE, 0xB8, 0xEF])) = some ({ markers with
    status := 0x01
    result := .ok true
    tx := [0x7E, 0xFF, 0x06, 0x42, 0x00, 0x00, 0x00, 0xFE, 0xB9, 0xEF] }) := by decide
theorem test_qvol_bad_end : after (exec (.qvol) (withRx [0x7E, 0xFF, 0x06, 0x43, 0x00, 0x00, 0x14, 0xFE, 0xA4, 0xEE])) = some ({ markers with
    volume := 0x00
    result := .ok false
    tx := [0x7E, 0xFF, 0x06, 0x43, 0x00, 0x00, 0x00, 0xFE, 0xB8, 0xEF] }) := by decide
theorem test_qnum : after (exec (.qnum) (withRx [0x7E, 0xFF, 0x06, 0x47, 0x00, 0x01, 0x02, 0xFE, 0xB1, 0xEF])) = some ({ markers with
    numtracks := 0x0102
    result := .ok true
    tx := [0x7E, 0xFF, 0x06, 0x47, 0x00, 0x00, 0x00, 0xFE, 0xB4, 0xEF] }) := by decide
theorem test_qtrack_unrecognised : after (exec (.qtrack) (withRx [0x7E, 0xFF, 0x06, 0x3F, 0x00, 0x00, 0x05, 0x00, 0x00, 0xEF])) = some ({ markers with
    curtrack := 0x0000
    result := .ok true
    tx := [0x7E, 0xFF, 0x06, 0x4C, 0x00, 0x00, 0x00, 0xFE, 0xAF, 0xEF] }) := by decide
theorem test_getstatus : after (exec (.getstatus) (withRx [0x7E, 0xFF, 0x06, 0x42, 0x00, 0x00, 0x01, 0xFE, 0xB8, 0xEF])) = some ({ markers with
    status := 0x01
    result := .byte 0x01
    tx := [0x7E, 0xFF, 0x06, 0x42, 0x00, 0x00, 0x00, 0xFE, 0xB9, 0xEF] }) := by decide
theorem test_getvol : after (exec (.getvol) (withRx [0x7E, 0xFF, 0x06, 0x43, 0x00, 0x00, 0x1E, 0xFE, 0x9A, 0xEF])) = some ({ markers with
    volume := 0x1E
    result := .byte 0x1E
    tx := [0x7E, 0xFF, 0x06, 0x43, 0x00, 0x00, 0x00, 0xFE, 0xB8, 0xEF] }) := by decide
theorem test_getnum : after (exec (.getnum) (withRx [0x7E, 0xFF, 0x06, 0x47, 0x00, 0x01, 0x02, 0xFE, 0xB1, 0xEF])) = some ({ markers with
    numtracks := 0x0102
    result := .half 0x0102
    tx := [0x7E, 0xFF, 0x06, 0x47, 0x00, 0x00, 0x00, 0xFE, 0xB4, 0xEF] }) := by decide
theorem test_gettrack : after (exec (.gettrack) (withRx [0x7E, 0xFF, 0x06, 0x4C, 0x00, 0x00, 0x05, 0xFE, 0xAA, 0xEF])) = some ({ markers with
    curtrack := 0x0005
    result := .half 0x0005
    tx := [0x7E, 0xFF, 0x06, 0x4C, 0x00, 0x00, 0x00, 0xFE, 0xAF, 0xEF] }) := by decide
theorem test_setmaxvol_lowers : after (exec (.setmaxvol 20) (withRx [0x7E, 0xFF, 0x06, 0x43, 0x00, 0x00, 0x19, 0xFE, 0x9F, 0xEF])) = some ({ markers with
    maxvol := 20
    volume := 0x19
    tx := [0x7E, 0xFF, 0x06, 0x43, 0x00, 0x00, 0x00, 0xFE, 0xB8, 0xEF] ++
      [0x7E, 0xFF, 0x06, 0x06, 0x00, 0x00, 0x14, 0xFE, 0xE1, 0xEF] }) := by decide
theorem test_setmaxvol_malformed : after (exec (.setmaxvol 40) (withRx [0x00, 0x00, 0x00, 0x00, 0x00, 0x00, 0x00, 0x00, 0x00, 0x00])) = some ({ markers with
    maxvol := 30
    volume := 0x00
    tx := [0x7E, 0xFF, 0x06, 0x43, 0x00, 0x00, 0x00, 0xFE, 0xB8, 0xEF] }) := by decide

/-- Nine bytes only: NUMTRACKS is cleared, the query is sent, and the operation waits (95_test_vectors.md 2.8). -/
theorem test_getnum_waits : after (exec .getnum (withRx [0x7E, 0xFF, 0x06, 0x47, 0x00, 0x01, 0x02, 0xFE, 0xB1])) =
    some ({ markers with
    numtracks := 0
    rx := [0x7E, 0xFF, 0x06, 0x47, 0x00, 0x01, 0x02, 0xFE, 0xB1]
    waiting := some (.accessor .numtracks)
    tx := [0x7E, 0xFF, 0x06, 0x47, 0x00, 0x00, 0x00, 0xFE, 0xB4, 0xEF] }) := by decide

/-- The first operation after reset: a placed word runs in the very next step. -/
theorem test_step_runs_placed_word :
    (after (step (State.reset.withFetchWord 80 0x7EFF0601000000FEFAEF))).map State.tx =
      some [0x7E, 0xFF, 0x06, 0x01, 0x00, 0x00, 0x00, 0xFE, 0xFA, 0xEF] := by decide

/-- A stray byte puts the reply out of step (95_test_vectors.md P5, step 1). -/
theorem test_stray_byte_fails_query :
    (after (exec .gettrack (withRx ([0x00, 0x7E, 0xFF, 0x06, 0x4C, 0x00, 0x00, 0x05, 0xFE, 0xAA, 0xEF])))).map
      (fun t => (t.result, t.rx)) = some (.half 0x0000, [0xEF]) := by decide

/-- A reader of the wire takes SHORT and FULL frames apart (95_test_vectors.md P2). -/
theorem test_readWire_mixed : readWire ([0x7E, 0xFF, 0x06, 0x01, 0x00, 0x00, 0x00, 0xEF] ++
    [0x7E, 0xFF, 0x06, 0x01, 0x00, 0x00, 0x00, 0xFE, 0xFA, 0xEF]) = some [⟨false, 0x01, 0⟩, ⟨true, 0x01, 0⟩] := by decide

/-! ## Witnesses: concrete states and operands that meet all hypotheses of each statement -/

/-- A well-formed reply with a command byte and data. -/
def goodReply (c hi lo : Byte) : Reply := ⟨0x7E, 0xFF, 0x06, c, 0x00, hi, lo, 0x00, 0x00, 0xEF⟩

/-- A machine that waits in the RxRead of GETVOL, with two bytes there. -/
def waitingState : State :=
  { markers with volume := 0, rx := [0x7E, 0xFF], waiting := some (.accessor .volume) }

theorem markers_inv : markers.Inv :=
  ⟨by decide, ⟨[], rfl⟩, fun h => absurd rfl h, fun h => absurd rfl h, fun _ h => nomatch h⟩

theorem waitingState_inv : waitingState.Inv :=
  ⟨by decide, ⟨[], rfl⟩, fun _ => by decide, fun _ => rfl, fun k h => by cases h; rfl⟩

theorem witness_FrameFormatsAndChecksum : (0xFED7 : Half) = 0 - ((0xFF : Byte).setWidth 16 + (0x06 : Byte).setWidth 16
    + (0x06 : Byte).setWidth 16 + (0x00 : Byte).setWidth 16 + ((0x001E : Half).extractLsb' 8 8).setWidth 16
    + ((0x001E : Half).extractLsb' 0 8).setWidth 16) := by decide

theorem witness_DecodeInvertsEncode : (20 : Byte) ≤ 30 ∧ (15 : Byte) ≤ 20 ∧
    ∀ o ∈ ([0x01, 0x02, 0x03, 0x04, 0x05, 0x06, 0x07, 0x08, 0x0D, 0x0E, 0x42, 0x43, 0x47, 0x4C] : List Byte),
      (0x09 : Byte) ≠ o := by decide

theorem witness_EncodedFramesReencode :
    (20 : Byte) ≤ 30 ∧ encode true 20 .next = some [0x7E, 0xFF, 0x06, 0x01, 0x00, 0x00, 0x00, 0xFE, 0xFA, 0xEF] := by decide

theorem witness_StepKeepsInvariant : markers.Inv ∧ step markers = .next markers := ⟨markers_inv, rfl⟩

theorem witness_StepRunsNextOperation : (markers.setOps [.next]).waiting = none ∧ (markers.setOps [.next]).ops = [.next] := by
  decide

theorem witness_StepRunsPlacedWord : decodeTableWord 64 0x7EFF060E000000EF = some .pause := by decide

/-- No operation in flight: the hypothesis of EveryOperationRuns, of SetckWritesCken, SetckSeenByNextEnc,
ValChecksThreeBytes, ClrWritesSentinel, RdReturnsRegister, SendAppendsFrame, ArgumentlessCommandFrames, PlaySendsTrack,
SetvolSendsClampedVolume, SeteqSendsPresetCode, NarrowArgumentsZeroExtended, SetmodeSendsModeCode and EncRoundTripPrefixAndAcceptance. -/
theorem witness_free : markers.waiting = none ∧ markers.maxvol ≤ 30 := by decide

theorem witness_OverlappingOperationRefused : waitingState.waiting = some (.accessor .volume) := rfl

/-- Both modes of EncReturnsFrame. -/
theorem witness_EncReturnsFrame : markers.waiting = none ∧ markers.cken = true ∧
    (markers.setCken false).waiting = none ∧ (markers.setCken false).cken = false := by decide

theorem witness_ChecksumArithmetic :
    ((0x0100 : Half).extractLsb' 8 8).toNat + ((0x0100 : Half).extractLsb' 0 8).toNat =
      ((0x0001 : Half).extractLsb' 8 8).toNat + ((0x0001 : Half).extractLsb' 0 8).toNat := by decide

theorem witness_ValIgnoresTheRest : (goodReply 0x42 0 1).start = (goodReply 0x4C 2 3).start ∧
    (goodReply 0x42 0 1).length = (goodReply 0x4C 2 3).length ∧ (goodReply 0x42 0 1).stop = (goodReply 0x4C 2 3).stop ∧
    markers.waiting = none := by decide

/-- One reply for each clause, at the ends of the data's range. -/
theorem witness_DecStoresByReplyCommand : markers.waiting = none ∧
    (∀ c ∈ ([0x42, 0x43, 0x47, 0x4C] : List Byte), (goodReply c 0xFF 0xFF).start = 0x7E ∧
      (goodReply c 0xFF 0xFF).length = 0x06 ∧ (goodReply c 0xFF 0xFF).stop = 0xEF ∧ (goodReply c 0xFF 0xFF).command = c) := by
  decide

/-- The command bytes next to the recognised ones. -/
theorem witness_DecUnrecognisedChangesNothing : ∀ c ∈ ([0x41, 0x44, 0x46, 0x48, 0x4B, 0x4D, 0x00, 0xFF] : List Byte),
    (goodReply c 0 5).start = 0x7E ∧ (goodReply c 0 5).length = 0x06 ∧ (goodReply c 0 5).stop = 0xEF ∧
    c ≠ 0x42 ∧ c ≠ 0x43 ∧ c ≠ 0x47 ∧ c ≠ 0x4C := by decide

/-- One wrong byte of each of the three, and RX with the frame at its front. -/
theorem witness_MalformedReplyTrace : (⟨0x7D, 0xFF, 0x06, 0x42, 0, 0, 1, 0, 0, 0xEF⟩ : Reply).start ≠ 0x7E ∧
    (⟨0x7E, 0xFF, 0x05, 0x42, 0, 0, 1, 0, 0, 0xEF⟩ : Reply).length ≠ 0x06 ∧
    (⟨0x7E, 0xFF, 0x06, 0x42, 0, 0, 1, 0, 0, 0xEE⟩ : Reply).stop ≠ 0xEF ∧
    (withRx [0x7E, 0xFF, 0x06, 0x42, 0, 0, 1, 0, 0, 0xEE, 0x99]).rx =
      (⟨0x7E, 0xFF, 0x06, 0x42, 0, 0, 1, 0, 0, 0xEE⟩ : Reply).bytes ++ [0x99] := by decide

theorem witness_CodecLeavesTransportAlone : isCodec (.enc 0 0) = true ∧ markers.waiting = none := by decide

theorem witness_CkenUnusedByReplySide : (∃ r, Instr.clr .status = .clr r) ∧ markers.waiting = none := ⟨⟨.status, rfl⟩, rfl⟩

theorem witness_SetvolNeverAboveThirty : markers.Inv ∧ markers.waiting = none ∧ markers.maxvol ≤ 255 :=
  ⟨markers_inv, rfl, by decide⟩

/-- For CommandsChangeOnlyTx and RepeatedCommandRepeatsFrame. -/
theorem witness_commands : isCommand (.setvol 255) = true ∧ isCommand .pause = true ∧ markers.waiting = none ∧
    (withRx [0x99]).waiting = none ∧ markers.cken = (withRx [0x99]).cken ∧ markers.maxvol = (withRx [0x99]).maxvol := by decide

/-- A reply of each kind at the front of RX: for QueriesStoreTheirReply, QueryProtocolRuns and AccessorsReturnRegister. -/
theorem witness_queries : ∀ c ∈ ([0x42, 0x43, 0x47, 0x4C] : List Byte),
    (withRx ((goodReply c 1 2).bytes ++ [0x99])).waiting = none ∧
    (withRx ((goodReply c 1 2).bytes ++ [0x99])).rx = (goodReply c 1 2).bytes ++ [0x99] ∧
    (goodReply c 1 2).command = c ∧
    true = decide ((goodReply c 1 2).start = 0x7E ∧ (goodReply c 1 2).length = 0x06 ∧ (goodReply c 1 2).stop = 0xEF) := by
  decide

/-- The ceiling at zero, one below, at, and above the reported volume. -/
theorem witness_SetmaxvolQueriesThenLowers : ∀ v ∈ ([0, 19, 20, 30, 31, 255] : List Byte),
    (withRx ((goodReply 0x43 0 20).bytes)).rx = (goodReply 0x43 0 20).bytes ++ [] ∧
    (BitVec.ofNat 8 (min v.toNat 30) < 20 ↔ v = 0 ∨ v = 19) := by decide

/-- QVOL answered by a status reply, the example of 43_queries.md R126; the same reply serves QNUM and QTRACK, and a
reply of no known kind serves all four. -/
theorem witness_ReplyOfAnotherKindLeavesSentinel : ∀ c ∈ ([0x42, 0x43, 0x47, 0x4C, 0x3F] : List Byte),
    (withRx ((goodReply c 0 1).bytes)).waiting = none ∧ (withRx ((goodReply c 0 1).bytes)).rx = (goodReply c 0 1).bytes ++ [] ∧
    (goodReply c 0 1).start = 0x7E ∧ (goodReply c 0 1).length = 0x06 ∧ (goodReply c 0 1).stop = 0xEF ∧
    (goodReply c 0 1).command = c := by decide

theorem witness_QueriesWaitForTenBytes : markers.waiting = none ∧ markers.rx.length < 10 := by decide

theorem witness_UnansweredReadBlocksForever : waitingState.Inv ∧ waitingState.waiting ≠ none ∧
    (waitingState.rx ++ waitingState.arrivals.flatten).length < 10 := ⟨waitingState_inv, by decide, by decide⟩

theorem witness_WaitEndsWithTenthByte :
    let s := { waitingState with arrivals := [[0x06, 0x43, 0x00, 0x00, 0x1E, 0x00, 0x00, 0xEF]] }
    s.waiting ≠ none ∧ (s.rx ++ s.arrivals.headD []).length = 10 := by decide

theorem witness_ArrivalTimingIsInvisible : readsReply .getvol = true ∧ (withRx [0x7E, 0xFF]).waiting = none ∧
    ((withRx [0x7E, 0xFF]).rx ++ ([[0x06, 0x43], [], [0x00, 0x00, 0x1E, 0x00, 0x00]] : List (List Byte)).flatten).length < 10 ∧
    10 ≤ ((withRx [0x7E, 0xFF]).rx ++ ([[0x06, 0x43], [], [0x00, 0x00, 0x1E, 0x00, 0x00]] : List (List Byte)).flatten ++
      [0xEF]).length := by decide

theorem witness_OnlySetckChangesCken : ∃ t, step (markers.setOps [.setck false]) = .next t ∧ t.cken ≠ markers.cken :=
  ⟨_, rfl, by decide⟩

theorem witness_OnlySetmaxvolChangesMaxvol : ∃ t, step (markers.setOps [.setmaxvol 20]) = .next t ∧ t.maxvol ≠ markers.maxvol :=
  ⟨_, rfl, by decide⟩

/-- Also the witness of TxGrowsByWholeFrames and RxLosesTenBytesOrNone, whose one hypothesis is that the step answers next. -/
theorem witness_CacheChangesOnlyByClrDecOrQuery :
    ∃ t, step (markers.setOps [.clr .status]) = .next t ∧ t.status ≠ markers.status :=
  ⟨_, rfl, by decide⟩

end Sys2Proof.Tests
end

section
/-! SUPPORT. What an operation and a step can do to the state as a whole, and from it the rules of 10_state.md: CKEN is
SETCK's alone, TX grows by whole frames, the invariant is kept, no result is read. -/

namespace Sys2Proof.Machine

/-! ## The shapes of an effect -/

/-- `Effect i s t`: what operation `i` may do to a free state `s`, with `t` the state after it. Seven shapes cover all
operations; `exec_effect` ties them to the model. Only the shapes whose rules differ from the others' name their
operation. -/
inductive Effect : Instr → State → State → Prop where
  /-- ENC, VAL and RD only return. -/
  | returns (i : Instr) (r : Result) (s : State) : Effect i s (s.ret r)
  /-- DEC stores what the reply carries. -/
  | decodes (f : Reply) (r : Result) (s : State) : Effect (.dec f) s ((decodeReply f s).2.ret r)
  /-- CLR zeroes its register. -/
  | clears (c : CacheReg) (s : State) : Effect (.clr c) s ((s.clear c).ret .none)
  /-- SETCK writes CKEN. -/
  | setsCken (en : Bool) (s : State) : Effect (.setck en) s ((s.setCken en).ret .none)
  /-- SEND and the ten commands transmit one frame. -/
  | sends (i : Instr) (c : Byte) (p : Half) (s : State) : Effect i s ((s.send c p).ret .none)
  /-- A query or an accessor runs the query protocol on the register its continuation names. -/
  | queries (i : Instr) (q : Byte) (k : Await) (s : State) (reads : readsReply i = true) :
      Effect i s (runQuery q k.register k s)
  /-- SETMAXVOL stores the ceiling and then runs the query protocol on VOLUME. -/
  | setsCeiling (v : Byte) (s : State) :
      Effect (.setmaxvol v) s (runQuery opQVol Await.setMaxVol.register .setMaxVol (s.setMaxvol (clampCeiling v)))

theorem effectOf_effect (i : Instr) (s : State) : Effect i s (effectOf i s) := by
  cases i with
  | enc | val | rd => exact .returns _ _ s
  | dec f => exact .decodes f _ s
  | clr c => exact .clears c s
  | setck en => exact .setsCken en s
  | next | prev | play | volup | voldn | setvol | seteq | setmode | resume | pause | send => exact .sends _ _ _ s
  | query q r => exact .queries _ q (.query r) s rfl
  | qstatus => exact .queries _ opQStatus (.query .status) s rfl
  | qvol => exact .queries _ opQVol (.query .volume) s rfl
  | qnum => exact .queries _ opQNum (.query .numtracks) s rfl
  | qtrack => exact .queries _ opQTrack (.query .curtrack) s rfl
  | getstatus => exact .queries _ opQStatus (.accessor .status) s rfl
  | getvol => exact .queries _ opQVol (.accessor .volume) s rfl
  | getnum => exact .queries _ opQNum (.accessor .numtracks) s rfl
  | gettrack => exact .queries _ opQTrack (.accessor .curtrack) s rfl
  | setmaxvol v => exact .setsCeiling v s

/-- An operation that answers a next state found none in flight and had one of the seven effects. -/
theorem exec_effect {i : Instr} {s t : State} (h : exec i s = .next t) : s.waiting = none ∧ Effect i s t := by
  obtain ⟨hw, rfl⟩ := exec_next h
  exact ⟨hw, effectOf_effect i s⟩

/-! ## The step -/

/-- With no operation in flight the host's next operation is executed after the arrivals (10_state.md R11). -/
theorem step_issue {s : State} {i : Instr} {rest : List Instr} (hw : s.waiting = none) (ho : s.ops = i :: rest) :
    step s = exec i (s.deliver.setOps rest) := by
  simp [step, nextOp, hw, ho]

/-- Where a step leads: the read in flight goes on, the next operation has its effect, or only bytes arrive. -/
theorem step_next_cases {s t : State} (h : step s = .next t) :
    (∃ k, s.waiting = some k ∧ t = receive k s.deliver) ∨
    (∃ i rest, s.waiting = none ∧ s.ops = i :: rest ∧ Effect i (s.deliver.setOps rest) t) ∨
    (s.waiting = none ∧ s.ops = [] ∧ t = s.deliver) := by
  rcases step_cases s with ⟨k, hw, hs⟩ | ⟨i, rest, hw, ho, hs⟩ | ⟨hw, ho, hs⟩
  · exact .inl ⟨k, hw, Host.Outcome.next.inj (h.symm.trans hs)⟩
  · exact .inr (.inl ⟨i, rest, hw, ho, (exec_effect (hs.symm.trans h)).2⟩)
  · exact .inr (.inr ⟨hw, ho, Host.Outcome.next.inj (h.symm.trans hs)⟩)

/-- Placing a table word that decodes puts its operation first and frees the machine. -/
theorem withFetchWord_of_decode {nbits w : Nat} {i : Instr} (h : decodeTableWord nbits w = some i) (s : State) :
    s.withFetchWord nbits w = { s with ops := i :: s.ops, waiting := none } := by
  simp [State.withFetchWord, h]

/-! ## CKEN (10_state.md R12) -/

@[simp] theorem runQuery_cken (q : Byte) (r : CacheReg) (k : Await) (s : State) : (runQuery q r k s).cken = s.cken := by
  simp [runQuery]

/-- An operation leaves CKEN alone or is the SETCK that wrote it. -/
theorem Effect.cken {i : Instr} {s t : State} (h : Effect i s t) : t.cken = s.cken ∨ i = .setck t.cken := by
  cases h with
  | setsCken en => exact .inr rfl
  | returns | decodes | clears | sends | queries | setsCeiling => left; simp

theorem store_setCken (f : Reply) (b : Bool) (s : State) : (s.setCken b).store f = (s.store f).setCken b := by
  unfold State.store
  repeat' split
  all_goals rfl

theorem decodeReply_setCken (f : Reply) (b : Bool) (s : State) :
    (decodeReply f (s.setCken b)).2 = (decodeReply f s).2.setCken b := by
  rw [decodeReply_snd, decodeReply_snd, store_setCken]
  split <;> rfl

/-- VAL, DEC, CLR and RD have the same effect under any CKEN. -/
theorem effectOf_setCken {i : Instr}
    (h : (∃ f, i = .val f) ∨ (∃ f, i = .dec f) ∨ (∃ r, i = .clr r) ∨ (∃ r, i = .rd r)) (b : Bool) (s : State) :
    effectOf i (s.setCken b) = (effectOf i s).setCken b := by
  rcases h with ⟨f, rfl⟩ | ⟨f, rfl⟩ | ⟨r, rfl⟩ | ⟨r, rfl⟩
  · rfl
  · simp only [effectOf, decodeReply_fst, decodeReply_setCken]
    rfl
  · cases r <;> rfl
  · cases r <;> rfl

/-! ## TX (10_state.md R23, 20_memory.md R31) -/

/-- `tx'` is `tx` and at most `n` whole frames of the length CKEN selects. -/
def TxGrows (n : Nat) (cken : Bool) (tx tx' : List Byte) : Prop :=
  ∃ ws : List WireItem, ws.length ≤ n ∧ (∀ w ∈ ws, w.full = cken) ∧ tx' = tx ++ wireStream ws

theorem TxGrows.refl (n : Nat) (cken : Bool) (tx : List Byte) : TxGrows n cken tx tx :=
  ⟨[], Nat.zero_le n, by simp, by simp⟩

theorem TxGrows.append_frame (cken : Bool) (tx : List Byte) (c : Byte) (p : Half) :
    TxGrows 1 cken tx (tx ++ wireFrame cken c p) :=
  ⟨[⟨cken, c, p⟩], Nat.le_refl 1, by simp, by simp [WireItem.bytes]⟩

theorem TxGrows.mono {m n : Nat} {cken : Bool} {tx tx' : List Byte} (h : TxGrows m cken tx tx') (hmn : m ≤ n) :
    TxGrows n cken tx tx' := by
  obtain ⟨ws, hlen, hfull, htx⟩ := h
  exact ⟨ws, hlen.trans hmn, hfull, htx⟩

theorem TxGrows.trans {m n : Nat} {cken : Bool} {tx tx' tx'' : List Byte} (h : TxGrows m cken tx tx')
    (h' : TxGrows n cken tx' tx'') : TxGrows (m + n) cken tx tx'' := by
  obtain ⟨ws, hlen, hfull, rfl⟩ := h
  obtain ⟨vs, hlen', hfull', rfl⟩ := h'
  refine ⟨ws ++ vs, ?_, ?_, ?_⟩
  · rw [List.length_append]
    exact Nat.add_le_add hlen hlen'
  · exact List.forall_mem_append.mpr ⟨hfull, hfull'⟩
  · rw [wireStream_append, List.append_assoc]

theorem finish_txGrows (k : Await) (ok : Bool) (s : State) : TxGrows 1 s.cken s.tx (finish k ok s).tx := by
  rcases finish_cases k ok s with ⟨r, h⟩ | ⟨-, -, h⟩ <;> rw [h]
  · exact .refl 1 _ _
  · simpa using TxGrows.append_frame s.cken s.tx opSetVol _

theorem receive_txGrows (k : Await) (s : State) : TxGrows 1 s.cken s.tx (receive k s).tx := by
  rcases receive_cases k s with ⟨-, h⟩ | ⟨f, rest, -, h⟩ <;> rw [h]
  · exact .refl 1 _ _
  · simpa using finish_txGrows k (replyOk f) (decodeReply f (s.setRx rest)).2.done

/-- The query frame, and perhaps the set-volume frame of SETMAXVOL. -/
theorem runQuery_txGrows (q : Byte) (r : CacheReg) (k : Await) (s : State) :
    TxGrows 2 s.cken s.tx (runQuery q r k s).tx := by
  have hsent : TxGrows 1 s.cken s.tx ((s.clear r).send q 0).tx := by
    simpa using TxGrows.append_frame s.cken s.tx q 0
  have hread : TxGrows 1 s.cken ((s.clear r).send q 0).tx (runQuery q r k s).tx := by
    simpa [runQuery] using receive_txGrows k ((s.clear r).send q 0)
  exact hsent.trans hread

theorem Effect.txGrows {i : Instr} {s t : State} (h : Effect i s t) : TxGrows 2 s.cken s.tx t.tx := by
  cases h with
  | returns | setsCken => exact .refl 2 _ _
  | decodes | clears => simpa using TxGrows.refl 2 s.cken s.tx
  | sends _ c p => simpa using (TxGrows.append_frame s.cken s.tx c p).mono one_le_two
  | queries _ q k => exact runQuery_txGrows q k.register k s
  | setsCeiling v => exact runQuery_txGrows opQVol .volume .setMaxVol (s.setMaxvol (clampCeiling v))

theorem step_txGrows {s t : State} (h : step s = .next t) : TxGrows 2 s.cken s.tx t.tx := by
  rcases step_next_cases h with ⟨k, -, rfl⟩ | ⟨i, rest, -, -, he⟩ | ⟨-, -, rfl⟩
  · simpa using (receive_txGrows k s.deliver).mono one_le_two
  · simpa using he.txGrows
  · simpa using TxGrows.refl 2 s.cken s.tx

/-- Whole frames after whole frames are whole frames. -/
theorem TxGrows.framed {n : Nat} {cken : Bool} {tx tx' : List Byte} (h : TxGrows n cken tx tx')
    (hs : ∃ ws, tx = wireStream ws) : ∃ ws, tx' = wireStream ws := by
  obtain ⟨ws, rfl⟩ := hs
  obtain ⟨vs, -, -, rfl⟩ := h
  exact ⟨ws ++ vs, (wireStream_append ws vs).symm⟩

/-! ## MAXVOL (10_state.md R17) -/

@[simp] theorem runQuery_maxvol (q : Byte) (r : CacheReg) (k : Await) (s : State) :
    (runQuery q r k s).maxvol = s.maxvol := by
  simp [runQuery]

/-- An operation leaves MAXVOL alone or is a SETMAXVOL, which stores its clamped operand. -/
theorem Effect.maxvol {i : Instr} {s t : State} (h : Effect i s t) :
    t.maxvol = s.maxvol ∨ ∃ v, i = .setmaxvol v ∧ t.maxvol = clampCeiling v := by
  cases h with
  | setsCeiling v => exact .inr ⟨v, rfl, by simp⟩
  | returns | decodes | clears | setsCken | sends | queries => left; simp

theorem step_ceiling {s t : State} (h : step s = .next t) (hs : s.maxvol ≤ 30) : t.maxvol ≤ 30 := by
  rcases step_next_cases h with ⟨k, -, rfl⟩ | ⟨i, rest, -, -, he⟩ | ⟨-, -, rfl⟩
  · simpa using hs
  · rcases he.maxvol with hm | ⟨v, -, hm⟩ <;> rw [hm]
    · simpa using hs
    · exact clampCeiling_le v
  · simpa using hs

/-! ## A wait (20_memory.md R32, 70_reset_and_hazards.md R159) -/

@[simp] theorem clear_atSentinel (r : CacheReg) (s : State) : (s.clear r).AtSentinel r := by
  cases r <;> rfl

@[simp] theorem send_atSentinel (c : Byte) (p : Half) (r : CacheReg) (s : State) :
    (s.send c p).AtSentinel r ↔ s.AtSentinel r := by
  cases r <;> rfl

@[simp] theorem await_atSentinel (k : Await) (r : CacheReg) (s : State) :
    (s.await k).AtSentinel r ↔ s.AtSentinel r := by
  cases r <;> rfl

@[simp] theorem deliver_atSentinel (r : CacheReg) (s : State) : s.deliver.AtSentinel r ↔ s.AtSentinel r := by
  cases r <;> simp [State.AtSentinel]

/-- What the invariant says of an operation in flight. -/
structure State.WaitOk (s : State) (k : Await) : Prop where
  starved : s.rx.length < 10
  unreturned : s.result = .none
  sentinel : s.AtSentinel k.register

/-- A read is over, or it waits as the invariant asks. -/
theorem receive_waiting {k : Await} {s : State} (hs : s.AtSentinel k.register) :
    (receive k s).waiting = none ∨ (receive k s).waiting = some k ∧ (receive k s).WaitOk k := by
  rcases receive_cases k s with ⟨hshort, h⟩ | ⟨f, rest, -, h⟩ <;> rw [h]
  · exact .inr ⟨rfl, hshort, rfl, (await_atSentinel k k.register s).mpr hs⟩
  · left; simp

theorem runQuery_waiting (q : Byte) (k : Await) (s : State) :
    (runQuery q k.register k s).waiting = none ∨
    (runQuery q k.register k s).waiting = some k ∧ (runQuery q k.register k s).WaitOk k :=
  receive_waiting (by simp)

/-- An operation issued on a free machine has completed, or it waits as the invariant asks. -/
theorem Effect.waiting {i : Instr} {s t : State} (h : Effect i s t) (hw : s.waiting = none) :
    t.waiting = none ∨ ∃ k, t.waiting = some k ∧ t.WaitOk k := by
  cases h with
  | returns | decodes | clears | setsCken | sends => left; simpa using hw
  | queries _ q k => exact (runQuery_waiting q k s).imp_right fun h => ⟨k, h⟩
  | setsCeiling v =>
    exact (runQuery_waiting opQVol .setMaxVol (s.setMaxvol (clampCeiling v))).imp_right fun h => ⟨.setMaxVol, h⟩

/-- After a step nothing is in flight, or what is waits as the invariant asks. Only the sentinel of an operation already
waiting has to be known before the step. -/
theorem step_waiting {s t : State} (h : step s = .next t) (hs : ∀ k, s.waiting = some k → s.AtSentinel k.register) :
    t.waiting = none ∨ ∃ k, t.waiting = some k ∧ t.WaitOk k := by
  rcases step_next_cases h with ⟨k, hw, rfl⟩ | ⟨i, rest, hw, -, he⟩ | ⟨hw, -, rfl⟩
  · have hk : s.deliver.AtSentinel k.register := (deliver_atSentinel _ s).mpr (hs k hw)
    exact (receive_waiting hk).imp_right fun h => ⟨k, h⟩
  · exact he.waiting (by simpa using hw)
  · left; simpa using hw

/-! ## The invariant -/

/-- With nothing in flight the invariant is the ceiling and the framing. -/
theorem State.Inv.of_free {s : State} (hw : s.waiting = none) (hc : s.maxvol ≤ 30) (hf : ∃ ws, s.tx = wireStream ws) :
    s.Inv :=
  ⟨hc, hf, fun h => absurd hw h, fun h => absurd hw h, fun k h => by simp [hw] at h⟩

/-- With an operation in flight it is these and the wait's own conditions. -/
theorem State.Inv.of_wait {s : State} {k : Await} (hw : s.waiting = some k) (hk : s.WaitOk k) (hc : s.maxvol ≤ 30)
    (hf : ∃ ws, s.tx = wireStream ws) : s.Inv := by
  obtain ⟨hshort, hret, hsent⟩ := hk
  refine ⟨hc, hf, fun _ => hshort, fun _ => hret, fun k' h => ?_⟩
  obtain rfl : k = k' := Option.some.inj (hw.symm.trans h)
  exact hsent

theorem State.Inv.step {s t : State} (hs : s.Inv) (h : step s = .next t) : t.Inv := by
  have hc : t.maxvol ≤ 30 := step_ceiling h hs.ceiling
  have hf : ∃ ws, t.tx = wireStream ws := (step_txGrows h).framed hs.framed
  rcases step_waiting h hs.sentinel with hw | ⟨k, hw, hk⟩
  · exact .of_free hw hc hf
  · exact .of_wait hw hk hc hf

/-! ## The result (10_state.md R19) -/

theorem runQuery_ret (q : Byte) (c : CacheReg) (k : Await) (r : Result) (s : State) :
    runQuery q c k (s.ret r) = runQuery q c k s := by
  have hsent : ((s.ret r).clear c).send q 0 = ((s.clear c).send q 0).ret r := by cases c <;> rfl
  rw [runQuery, hsent, receive_ret, runQuery]

/-- No effect depends on the result that stands before it. -/
theorem effectOf_ret (i : Instr) (r : Result) (s : State) : effectOf i (s.ret r) = effectOf i s := by
  cases i with
  | enc | val | setck => rfl
  | next | prev | play | volup | voldn | setvol | seteq | setmode | resume | pause | send => rfl
  | clr c | rd c => cases c <;> rfl
  | dec f =>
    simp only [effectOf, decodeReply_fst, decodeReply_ret]
    rfl
  | query | qstatus | qvol | qnum | qtrack | getstatus | getvol | getnum | gettrack => exact runQuery_ret _ _ _ r s
  | setmaxvol v => exact runQuery_ret _ _ _ r (s.setMaxvol (clampCeiling v))

end Sys2Proof.Machine

namespace Sys2Proof.Proofs

open Sys2Proof.Machine

/-- Settles O8: the ceiling, the framing of TX and the conditions of a wait are each kept by a step. -/
theorem stepKeepsInvariant : Obligations.StepKeepsInvariant :=
  fun _ _ hs h => hs.step h

/-- Settles O28: the effects of the four operations commute with a write of CKEN. -/
theorem ckenUnusedByReplySide : Obligations.CkenUnusedByReplySide := by
  intro i s b hi hw
  refine ⟨effectOf i s, ?_, ?_, ?_⟩
  · rw [exec_eq_issue, issue_free hw]
  · rcases hi with ⟨f, rfl⟩ | ⟨f, rfl⟩ | ⟨r, rfl⟩ | ⟨r, rfl⟩ <;> simp [effectOf]
  · change exec i (s.setCken b) = .next ((effectOf i s).setCken b)
    rw [exec_eq_issue, issue_free (by exact hw), effectOf_setCken hi]

/-- Settles O48: of the things a step can do only the effect of a SETCK touches CKEN. -/
theorem onlySetckChangesCken : Obligations.OnlySetckChangesCken := by
  intro s t h hne
  rcases step_next_cases h with ⟨k, -, rfl⟩ | ⟨i, rest, hw, ho, he⟩ | ⟨-, -, rfl⟩
  · exact absurd (by simp) hne
  · rcases he.cken with hc | rfl
    · exact absurd (by simpa using hc) hne
    · exact ⟨hw, rest, ho⟩
  · exact absurd (by simp) hne

/-- Settles O51: a query frame and a set-volume frame are the most one step can send. -/
theorem txGrowsByWholeFrames : Obligations.TxGrowsByWholeFrames :=
  fun _ _ h => step_txGrows h

/-- Settles O53: the effect is the same under any result, and so is the refusal. -/
theorem resultIsNeverRead : Obligations.ResultIsNeverRead := by
  intro i s r
  change exec i (s.ret r) = exec i s
  rw [exec_eq_issue, exec_eq_issue]
  cases hw : s.waiting with
  | none => rw [issue_free (by exact hw), issue_free hw, effectOf_ret]
  | some k => rw [issue_busy (by exact hw), issue_busy hw]

/-- Settles O7: at reset nothing is in flight, TX is empty and the ceiling is 30. -/
theorem resetMeetsInvariant : Obligations.ResetMeetsInvariant :=
  .of_free rfl (BitVec.le_refl 30) ⟨[], rfl⟩

/-- Settles O9: the issuing step, with the arrivals written out. -/
theorem stepRunsNextOperation : Obligations.StepRunsNextOperation := by
  intro s i rest hw ho
  rw [step_issue hw ho, deliver_eq]
  rfl

/-- Settles O10: the placed operation is the host's next one, so O9 applies. -/
theorem stepRunsPlacedWord : Obligations.StepRunsPlacedWord := by
  intro s nbits w i h
  rw [withFetchWord_of_decode h]
  exact stepRunsNextOperation _ i s.ops rfl rfl

end Sys2Proof.Proofs
end

section
/-! SUPPORT. The transport's reading side (20_memory.md R32, R33, R37): what one read takes from RX, that a wait in
RxRead ends in the outcome of a read that never waited, and which operations leave the transport or the cached registers
alone. -/

namespace Sys2Proof.Machine

/-! ## An operation on a free machine -/

theorem exec_free {s : State} (hw : s.waiting = none) (i : Instr) : exec i s = .next (effectOf i s) := by
  rw [exec_eq_issue, issue_free hw]

/-- A codec operation leaves TX, RX and the arrivals alone (20_memory.md R30). -/
theorem effectOf_codec_transport {i : Instr} (hi : isCodec i = true) (s : State) :
    (effectOf i s).tx = s.tx ∧ (effectOf i s).rx = s.rx ∧ (effectOf i s).arrivals = s.arrivals := by
  cases i with
  | enc | setck | val | rd => exact ⟨rfl, rfl, rfl⟩
  | dec | clr => simp [effectOf]
  | _ => cases hi

/-! ## The query protocol on a short RX (43_queries.md R120, 20_memory.md R32) -/

theorem runQuery_short {s : State} (q : Byte) (r : CacheReg) (k : Await) (h : s.rx.length < 10) :
    runQuery q r k s = ((s.clear r).txWrite (wireFrame s.cken q 0)).await k := by
  rw [runQuery, receive_short k (by simpa using h), State.send_eq, State.clear_cken]

/-- An operation whose effect is the query protocol, perhaps after a preparation of the state, waits on a short RX. -/
theorem exec_query_waits {i : Instr} {s s' : State} {q : Byte} (r : CacheReg) {k : Await} (hw : s.waiting = none)
    (he : effectOf i s = runQuery q r k s') (h : s'.rx.length < 10) :
    exec i s = .next (((s'.clear r).txWrite (wireFrame s'.cken q 0)).await k) := by
  rw [exec_free hw, he, runQuery_short q r k h]

/-- The ceiling SETMAXVOL stores, as a number (42_commands.md R111). -/
theorem clampCeiling_eq (v : Byte) : clampCeiling v = BitVec.ofNat 8 (min v.toNat 30) := by
  apply BitVec.eq_of_toNat_eq
  have hv : (clampCeiling v).toNat = min v.toNat 30 := minByte_toNat v volLimit
  rw [hv, BitVec.toNat_ofNat]
  omega

/-! ## What a read takes (20_memory.md R32, R33) -/

/-- With ten bytes there a read is over, and exactly the first ten are gone. -/
theorem receive_takes_ten {s : State} (k : Await) (h : 10 ≤ s.rx.length) :
    (receive k s).waiting = none ∧ (receive k s).rx = s.rx.drop 10 := by
  obtain ⟨f, rest, hrx⟩ := bytes_of_ten_le h
  have hdrop : s.rx.drop 10 = rest := by rw [hrx]; exact List.drop_left' f.bytes_length
  rw [receive_bytes k hrx, hdrop]
  simp

/-- RX went from `rx` to `rx'` by losing nothing, or the ten bytes of one reply from its front. -/
def RxLosesReplyOrNone (rx rx' : List Byte) : Prop :=
  rx' = rx ∨ ∃ f : Reply, rx = f.bytes ++ rx'

theorem receive_rxLoses (k : Await) (s : State) : RxLosesReplyOrNone s.rx (receive k s).rx := by
  rcases receive_cases k s with ⟨-, h⟩ | ⟨f, rest, hrx, h⟩ <;> rw [h]
  · exact .inl rfl
  · exact .inr ⟨f, by simpa using hrx⟩

theorem runQuery_rxLoses (q : Byte) (r : CacheReg) (k : Await) (s : State) :
    RxLosesReplyOrNone s.rx (runQuery q r k s).rx := by
  simpa [runQuery] using receive_rxLoses k ((s.clear r).send q 0)

theorem Effect.rxLoses {i : Instr} {s t : State} (h : Effect i s t) : RxLosesReplyOrNone s.rx t.rx := by
  cases h with
  | returns | decodes | clears | setsCken | sends => left; simp
  | queries _ q k => exact runQuery_rxLoses q k.register k s
  | setsCeiling v => exact runQuery_rxLoses opQVol .volume .setMaxVol (s.setMaxvol (clampCeiling v))

/-- A step loses nothing or one reply from RX as it is after the arrivals. -/
theorem step_rxLoses {s t : State} (h : step s = .next t) : RxLosesReplyOrNone s.deliver.rx t.rx := by
  rcases step_next_cases h with ⟨k, -, rfl⟩ | ⟨i, rest, -, -, he⟩ | ⟨-, -, rfl⟩
  · exact receive_rxLoses k s.deliver
  · exact he.rxLoses
  · exact .inl rfl

/-! ## The cached registers (20_memory.md R43, 42_commands.md R112) -/

/-- The four cached registers hold the same values in both states. -/
structure SameCache (s t : State) : Prop where
  status : t.status = s.status
  volume : t.volume = s.volume
  numtracks : t.numtracks = s.numtracks
  curtrack : t.curtrack = s.curtrack

/-- CLR, DEC, or an operation that contains them. -/
def WritesCache (i : Instr) : Prop :=
  (∃ r, i = .clr r) ∨ (∃ f, i = .dec f) ∨ readsReply i = true

theorem Effect.sameCache_or_writesCache {i : Instr} {s t : State} (h : Effect i s t) : SameCache s t ∨ WritesCache i := by
  cases h with
  | returns | setsCken | sends => exact .inl ⟨rfl, rfl, rfl, rfl⟩
  | clears c => exact .inr (.inl ⟨c, rfl⟩)
  | decodes f => exact .inr (.inr (.inl ⟨f, rfl⟩))
  | queries _ _ _ _ reads => exact .inr (.inr (.inr reads))
  | setsCeiling v => exact .inr (.inr (.inr rfl))

theorem SameCache.of_deliver {s t : State} (h : SameCache s.deliver t) : SameCache s t :=
  ⟨h.status.trans (deliver_status s), h.volume.trans (deliver_volume s), h.numtracks.trans (deliver_numtracks s),
    h.curtrack.trans (deliver_curtrack s)⟩

/-- Only a read in flight and the operations that write the cache change it. -/
theorem step_sameCache {s t : State} (h : step s = .next t) :
    SameCache s t ∨ s.waiting ≠ none ∨ ∃ i rest, s.ops = i :: rest ∧ WritesCache i := by
  rcases step_next_cases h with ⟨k, hw, -⟩ | ⟨i, rest, -, ho, he⟩ | ⟨-, -, rfl⟩
  · exact .inr (.inl (by simp [hw]))
  · rcases he.sameCache_or_writesCache with hs | hi
    · exact .inl (.of_deliver ⟨hs.status, hs.volume, hs.numtracks, hs.curtrack⟩)
    · exact .inr (.inr ⟨i, rest, ho, hi⟩)
  · exact .inl (.of_deliver ⟨rfl, rfl, rfl, rfl⟩)

/-! ## When the bytes arrive (20_memory.md R32, R33, 70_reset_and_hazards.md R168) -/

/-- `s` once the bytes `bs` have come in and `later` is still to come. -/
def State.feed (bs : List Byte) (later : List (List Byte)) (s : State) : State :=
  { s with rx := s.rx ++ bs, arrivals := later }

@[simp] theorem State.feed_rx (bs : List Byte) (later : List (List Byte)) (s : State) :
    (s.feed bs later).rx = s.rx ++ bs := rfl

theorem State.feed_feed (bs bs' : List Byte) (later later' : List (List Byte)) (s : State) :
    (s.feed bs later).feed bs' later' = s.feed (bs ++ bs') later' := by
  simp [State.feed]

/-- A waiting read goes on, once the step's chunk is there, as a read that has not waited. -/
theorem step_await {s : State} {chunk : List Byte} {later : List (List Byte)} (k : Await)
    (ha : s.arrivals = chunk :: later) : step (s.await k) = .next (receive k (s.feed chunk later)) := by
  have hd : (s.await k).deliver = (s.feed chunk later).await k := by
    simp [deliver_eq, State.await, State.feed, ha]
  simp only [step, hd]
  exact congrArg Host.Outcome.next (receive_await k k (s.feed chunk later))

/-- A read that waits through chunks too short for it, and then gets `last`, does what it does on all those bytes at
once. -/
theorem runSteps_await (k : Await) (chunks : List (List Byte)) (last : List Byte) (later : List (List Byte)) :
    ∀ s : State, s.arrivals = chunks ++ last :: later → (s.rx ++ chunks.flatten).length < 10 →
      runSteps (chunks.length + 1) (s.await k) = .next (receive k (s.feed (chunks.flatten ++ last) later)) := by
  induction chunks with
  | nil =>
    intro s ha _
    exact runSteps_succ 0 (step_await k ha)
  | cons c cs ih =>
    intro s ha hshort
    have hstill : (s.feed c (cs ++ last :: later)).rx.length < 10 := by
      simp only [List.flatten_cons, List.length_append] at hshort
      simp only [State.feed_rx, List.length_append]
      omega
    have hstep : step (s.await k) = .next ((s.feed c (cs ++ last :: later)).await k) := by
      rw [step_await (later := cs ++ last :: later) k ha, receive_short k hstill]
    rw [List.length_cons, runSteps_succ _ hstep, ih _ rfl (by simpa using hshort), State.feed_feed]
    simp

/-- The query protocol up to its read does not depend on the bytes that come in. -/
theorem send_clear_feed (q : Byte) (r : CacheReg) (bs : List Byte) (later : List (List Byte)) (s : State) :
    ((s.feed bs later).clear r).send q 0 = ((s.clear r).send q 0).feed bs later := by
  cases r <;> rfl

/-- A query that must wait ends in the outcome it has when all its bytes are there at once. -/
theorem runQuery_feed (q : Byte) (r : CacheReg) (k : Await) (chunks : List (List Byte)) (last : List Byte)
    (later : List (List Byte)) {s : State} (hshort : (s.rx ++ chunks.flatten).length < 10) :
    (runQuery q r k (s.feed [] (chunks ++ last :: later))).waiting = some k ∧
    runSteps (chunks.length + 1) (runQuery q r k (s.feed [] (chunks ++ last :: later))) =
      .next (runQuery q r k (s.feed (chunks.flatten ++ last) later)) := by
  have hwaits : runQuery q r k (s.feed [] (chunks ++ last :: later)) =
      (((s.clear r).send q 0).feed [] (chunks ++ last :: later)).await k := by
    rw [runQuery, send_clear_feed, receive_short k]
    simp only [List.length_append] at hshort
    simp only [State.feed_rx, State.send_rx, State.clear_rx, List.append_nil]
    omega
  rw [hwaits]
  refine ⟨rfl, ?_⟩
  rw [runSteps_await k chunks last later _ rfl (by simpa using hshort), State.feed_feed, List.nil_append, runQuery,
    send_clear_feed]

/-- An operation that reads a reply is the query protocol after a preparation (none, or SETMAXVOL's store of the ceiling)
that ignores RX and the arrivals. -/
theorem effectOf_readsReply {i : Instr} (hi : readsReply i = true) (s : State) :
    ∃ (q : Byte) (r : CacheReg) (k : Await) (s' : State), s'.rx = s.rx ∧
      ∀ bs later, effectOf i (s.feed bs later) = runQuery q r k (s'.feed bs later) := by
  cases i with
  | query | qstatus | qvol | qnum | qtrack | getstatus | getvol | getnum | gettrack =>
    exact ⟨_, _, _, s, rfl, fun _ _ => rfl⟩
  | setmaxvol v => exact ⟨_, _, _, s.setMaxvol (clampCeiling v), rfl, fun _ _ => rfl⟩
  | _ => cases hi

end Sys2Proof.Machine

namespace Sys2Proof.Proofs

open Sys2Proof.Machine

/-- Settles O13: every operation is an issue, and an issue is refused while another is in flight. -/
theorem overlappingOperationRefused : Obligations.OverlappingOperationRefused := by
  intro i s k hw
  rw [exec_eq_issue, issue_busy hw]

/-- Settles O27: none of the six effects writes TX, RX or the arrivals. -/
theorem codecLeavesTransportAlone : Obligations.CodecLeavesTransportAlone :=
  fun i s hi hw => ⟨effectOf i s, exec_free hw i, effectOf_codec_transport hi s⟩

/-- Settles O44: each of these operations is the query protocol, which waits on a short RX; SETMAXVOL runs it on the
state with its ceiling stored. -/
theorem queriesWaitForTenBytes : Obligations.QueriesWaitForTenBytes := by
  intro s hw hrx
  refine ⟨fun q => ?_, fun q => ?_, fun q => ?_, fun q => ?_, rfl, rfl, rfl, rfl, ?_, ?_, ?_, ?_, fun v => ?_⟩
  · exact exec_query_waits .status hw rfl hrx
  · exact exec_query_waits .volume hw rfl hrx
  · exact exec_query_waits .numtracks hw rfl hrx
  · exact exec_query_waits .curtrack hw rfl hrx
  · exact exec_query_waits .status hw rfl hrx
  · exact exec_query_waits .curtrack hw rfl hrx
  · exact exec_query_waits .volume hw rfl hrx
  · exact exec_query_waits .numtracks hw rfl hrx
  · rw [← clampCeiling_eq]
    exact exec_query_waits (i := .setmaxvol v) (s' := s.setMaxvol (clampCeiling v)) .volume hw rfl hrx

/-- Settles O46: the step of a waiting machine is the read on RX after the arrivals, which holds ten bytes. -/
theorem waitEndsWithTenthByte : Obligations.WaitEndsWithTenthByte := by
  intro s hw hten
  obtain ⟨k, hk⟩ := Option.ne_none_iff_exists'.mp hw
  rw [← deliver_rx] at hten ⊢
  obtain ⟨hfree, hrx⟩ := receive_takes_ten k hten
  exact ⟨receive k s.deliver, by simp [step, hk], hfree, hrx, by simp⟩

/-- Settles O47: the wait ends in the outcome of the query that never waited. The equality does not need the tenth byte:
with fewer both sides still wait. -/
theorem arrivalTimingIsInvisible : Obligations.ArrivalTimingIsInvisible := by
  intro i s chunks last later hi hw hshort _
  obtain ⟨q, r, k, s', hrx, he⟩ := effectOf_readsReply hi s
  obtain ⟨hwaits, hrun⟩ := runQuery_feed q r k chunks last later (s := s') (hrx ▸ hshort)
  have hchunked : { s with arrivals := chunks ++ last :: later } = s.feed [] (chunks ++ last :: later) := by
    simp [State.feed]
  have hatOnce : { s with rx := s.rx ++ chunks.flatten ++ last, arrivals := later } =
      s.feed (chunks.flatten ++ last) later := by
    simp [State.feed]
  rw [hchunked, hatOnce, exec_free (by exact hw), exec_free (by exact hw), he, he]
  exact ⟨_, rfl, by simp [hwaits], hrun⟩

/-- Settles O50: a step that is neither a read in flight nor an operation that writes the cache keeps all four
registers. -/
theorem cacheChangesOnlyByClrDecOrQuery : Obligations.CacheChangesOnlyByClrDecOrQuery := by
  intro s t h hne
  rcases step_sameCache h with ⟨hst, hvol, hnum, hcur⟩ | hother
  · simp [hst, hvol, hnum, hcur] at hne
  · exact hother

/-- Settles O52: RX after the arrivals loses nothing or one reply. -/
theorem rxLosesTenBytesOrNone : Obligations.RxLosesTenBytesOrNone := by
  intro s t h
  rw [← deliver_rx]
  exact step_rxLoses h

/-- Settles O19: the ENC runs on the state SETCK left, whose CKEN is `en`. -/
theorem setckSeenByNextEnc : Obligations.SetckSeenByNextEnc := by
  intro en c p s hw
  refine ⟨effectOf (.setck en) s, _, exec_free hw _, exec_free (by exact hw) _, ?_⟩
  simp [effectOf]

end Sys2Proof.Proofs
end

section
/-! SUPPORT. The frame codec of 30_encoding.md as a pair: what the decoder answers on the frame an operation encodes to,
and on the words of opcode_table.json. -/

namespace Sys2Proof

/-! ## The frame of an operation -/

theorem encode_of_wireFields {i : Instr} {maxvol c : Byte} {p : Half} (h : i.wireFields maxvol = some (c, p))
    (cken : Bool) : encode cken maxvol i = some (wireFrame cken c p) := by
  cases i
  case val => cases h
  case dec => cases h
  all_goals simp only [encode, h, Option.map_some]

theorem port_of_wireFields {i : Instr} {maxvol c : Byte} {p : Half} (h : i.wireFields maxvol = some (c, p)) :
    i.port = .wire := by
  cases i
  case val => cases h
  case dec => cases h
  all_goals rfl

/-- The decoder reads COMMAND and PARAMETER back from the frame, whatever CKEN is. -/
theorem decode_port_wireFrame {i : Instr} {maxvol c : Byte} {p : Half} (h : i.wireFields maxvol = some (c, p))
    (cken : Bool) : decode i.port (wireFrame cken c p) = .ok (decodeCommand c p) := by
  rw [port_of_wireFields h]
  exact decodeWire_wireFrame cken c p

/-- An operation that COMMAND and PARAMETER determine survives the wire. -/
theorem decode_encode_of_wireFields {i : Instr} {maxvol c : Byte} {p : Half} (h : i.wireFields maxvol = some (c, p))
    (hi : decodeCommand c p = i) (cken : Bool) :
    ∃ bs, encode cken maxvol i = some bs ∧ decode i.port bs = .ok i :=
  ⟨_, encode_of_wireFields h cken, by rw [decode_port_wireFrame h, hi]⟩

/-! ## The rows of R56 with an operand -/

theorem decodeCommand_setvol {v : Byte} (hv : v ≤ volLimit) :
    decodeCommand opSetVol (v.setWidth 16) = .setvol v := by
  have hp : v.setWidth 16 ≤ volLimit.setWidth 16 := by
    simp only [BitVec.le_def, BitVec.toNat_setWidth] at hv ⊢
    omega
  rw [decodeCommand, if_neg (by decide), if_pos ⟨rfl, hp⟩, loByte_setWidth]

theorem decodeCommand_seteq (e : EqPreset) :
    ∃ e', decodeCommand opSetEq (eqCode e) = .seteq e' ∧ eqCode e' = eqCode e := by
  obtain ⟨e', he⟩ := eqPresetOf_isSome e
  refine ⟨e', ?_, eqPresetOf_code he⟩
  rw [decodeCommand, if_neg (by decide), if_neg (by simp), if_pos rfl, he]

theorem decodeCommand_setmode (m : PlayMode) :
    ∃ m', decodeCommand opSetMode (modeCode m) = .setmode m' ∧ modeCode m' = modeCode m := by
  obtain ⟨m', hm⟩ := playModeOf_isSome m
  refine ⟨m', ?_, playModeOf_code hm⟩
  rw [decodeCommand, if_neg (by decide), if_neg (by simp), if_neg (by decide), if_pos rfl, hm]

/-- A COMMAND outside the table of R56 selects the ENC row (R59). -/
theorem decodeCommand_not_listed {c : Byte} (p : Half)
    (h : ∀ o ∈ [opNext, opPrev, opPlay, opVolUp, opVolDn, opSetVol, opSetEq, opSetMode, opResume, opPause, opQStatus,
      opQVol, opQNum, opQTrack], c ≠ o) : decodeCommand c p = .enc c p := by
  simp only [List.forall_mem_cons] at h
  simp only [decodeCommand, h, false_and, if_false, ite_self]

/-! ## The words of the opcode table -/

theorem decodeTableWord_fullFrame {w : Nat} {c : Byte} {p : Half} (h : bytesOfWord 10 w = fullFrame c p) :
    decodeTableWord 80 w = some (decodeCommand c p) := by
  have hport : tablePort (fullFrame c p) = .wire := by
    simp only [fullFrame, tablePort, templateOk_constants, if_true]
  have hdec : decode .wire (fullFrame c p) = .ok (decodeCommand c p) := decodeWire_wireFrame true c p
  rw [decodeTableWord, if_pos rfl, h, hport, hdec]
  rfl

theorem decodeTableWord_shortFrame {w : Nat} {c : Byte} {p : Half} (h : bytesOfWord 8 w = shortFrame c p) :
    decodeTableWord 64 w = some (decodeCommand c p) := by
  have hdec : decode .wire (shortFrame c p) = .ok (decodeCommand c p) := decodeWire_wireFrame false c p
  rw [decodeTableWord, if_neg (by decide), if_pos rfl, h, hdec]
  rfl

/-- A reply whose COMMAND has a DEC row of its own, and that is no outgoing frame, is an operand of DEC. -/
theorem decodeTableWord_dec {w : Nat} {f : Reply} (h : bytesOfWord 10 w = f.bytes) (hport : tablePort f.bytes = .dec) :
    decodeTableWord 80 w = some (.dec f) := by
  rw [decodeTableWord, if_pos rfl, h, hport, decode, Reply.ofBytes?_bytes]
  rfl

end Sys2Proof

namespace Sys2Proof.Proofs

open Sys2Proof.Machine

/-- Settles O3, row by row: the decoder answers on COMMAND and PARAMETER, and each row's pair selects that row. A clamped
volume is at most 30, so the SETVOL row admits it. -/
theorem decodeInvertsEncode : Obligations.DecodeInvertsEncode := by
  intro cken maxvol hmax
  refine ⟨fun i hi => ?_, fun v => ?_, fun e => ?_, fun m => ?_⟩
  · rcases hi with rfl | rfl | rfl | rfl | rfl | rfl | rfl | rfl | rfl | rfl | ⟨t, rfl⟩ | hi
    -- The ten operations with a zero parameter, and PLAY: the decoder computes on their pair.
    iterate 11 exact decode_encode_of_wireFields rfl (by rfl) cken
    rcases hi with ⟨f, rfl⟩ | ⟨f, rfl⟩ | ⟨v, rfl, hv⟩ | ⟨c, p, rfl, hc⟩
    · exact ⟨f.bytes, rfl, rfl⟩
    · exact ⟨f.bytes, rfl, rfl⟩
    · exact decode_encode_of_wireFields (by rw [Instr.wireFields, if_pos hv])
        (decodeCommand_setvol (BitVec.le_trans hv hmax)) cken
    · exact decode_encode_of_wireFields rfl (decodeCommand_not_listed p hc) cken
  · have hclamp : (if v ≤ maxvol then v else maxvol) ≤ volLimit := by
      split
      case isTrue hv => exact BitVec.le_trans hv hmax
      case isFalse => exact hmax
    exact ⟨_, encode_of_wireFields rfl cken, by
      rw [← decodeCommand_setvol hclamp]; exact decodeWire_wireFrame cken _ _⟩
  · obtain ⟨e', hdec, hcode⟩ := decodeCommand_seteq e
    exact ⟨_, e', encode_of_wireFields rfl cken, by rw [← hdec]; exact decodeWire_wireFrame cken _ _, hcode⟩
  · obtain ⟨m', hdec, hcode⟩ := decodeCommand_setmode m
    exact ⟨_, m', encode_of_wireFields rfl cken, by rw [← hdec]; exact decodeWire_wireFrame cken _ _, hcode⟩

/-- Settles O5, by induction on the frames: the reader takes the first off, of either length, and goes on. -/
theorem wireStreamReadsBack : Obligations.WireStreamReadsBack := by
  intro ws
  induction ws with
  | nil => rfl
  | cons w ws ih =>
    obtain ⟨full, c, p⟩ := w
    rw [wireStream_cons]
    cases full with
    | false => exact (readWire_short c p _).trans (by rw [ih, Option.map_some])
    | true => exact (readWire_full c p _).trans (by rw [ih, Option.map_some])

/-- Settles O4: the operation that COMMAND and PARAMETER decode to puts the same two on the wire. -/
theorem encodedFramesReencode : Obligations.EncodedFramesReencode := by
  intro cken maxvol i bs _ h
  obtain ⟨f, rfl, rfl⟩ | ⟨f, rfl, rfl⟩ | ⟨c, p, hi, rfl⟩ := encode_cases h
  · exact ⟨.val f, rfl, rfl, rfl⟩
  · exact ⟨.dec f, rfl, rfl, rfl⟩
  · obtain ⟨hfields, hwf⟩ := decodeCommand_spec c p
    exact ⟨_, decode_port_wireFrame hi cken, hwf, encode_of_wireFields hfields cken⟩

/-- Settles O17: byte 7 is END in SHORT and CK_HI in FULL, and CK_HI is never END. -/
theorem byteSevenTellsShortFromFull : Obligations.ByteSevenTellsShortFromFull :=
  fun c p => ⟨rfl, fun h => hiByte_frameChecksum_ne_end c p (Option.some.inj h)⟩

/-- Settles O1: each word is the frame of its COMMAND and PARAMETER, the last one a reply of STATUS. -/
theorem tableWordsDecode : Obligations.TableWordsDecode := by
  refine ⟨?next, ?pause, ?play, ?setvol, ?qtrack, ?enc, ?dec⟩
  case next => exact decodeTableWord_fullFrame (c := opNext) (p := 0) (by decide)
  case pause => exact decodeTableWord_shortFrame (c := opPause) (p := 0) (by decide)
  case play => exact decodeTableWord_fullFrame (c := opPlay) (p := 9999) (by decide)
  case setvol => exact decodeTableWord_fullFrame (c := opSetVol) (p := 30) (by decide)
  case qtrack => exact decodeTableWord_fullFrame (c := opQTrack) (p := 0) (by decide)
  case enc => exact decodeTableWord_fullFrame (c := 0xFF) (p := 0xFFFF) (by decide)
  case dec => exact decodeTableWord_dec (by decide) (by decide)

end Sys2Proof.Proofs
end

section
/-! SUPPORT. The encoder (40_encoder.md): the checksum of R71 as exact arithmetic (R72), the FULL frame as a reply (R73),
and what ENC and SETCK return and write. -/

namespace Sys2Proof

/-! ## The checksum (R71, R72) -/

/-- R71's formula, in the rule's own form `0 - sum`. -/
theorem frameChecksum_eq_zero_sub (c : Byte) (p : Half) :
    frameChecksum c p = 0 - ((0xFF : Byte).setWidth 16 + (0x06 : Byte).setWidth 16 + c.setWidth 16
      + (0x00 : Byte).setWidth 16 + (hiByte p).setWidth 16 + (loByte p).setWidth 16) :=
  (BitVec.zero_sub _).symm

/-- Three bytes at 0 and three bytes at 255 bound the checksum. -/
theorem frameChecksum_bounds (c : Byte) (p : Half) :
    0xFBFE ≤ (frameChecksum c p).toNat ∧ (frameChecksum c p).toNat ≤ 0xFEFB := by
  have hc := c.isLt
  have hh := (hiByte p).isLt
  have hl := (loByte p).isLt
  rw [frameChecksum_toNat]
  omega

/-- CK_HI is one of four bytes, as the bounds leave no other. -/
theorem hiByte_frameChecksum_mem (c : Byte) (p : Half) :
    hiByte (frameChecksum c p) ∈ ([0xFB, 0xFC, 0xFD, 0xFE] : List Byte) := by
  obtain ⟨hlow, hhigh⟩ := frameChecksum_bounds c p
  have hhi := hiByte_toNat (frameChecksum c p)
  simp only [List.mem_cons, List.not_mem_nil, or_false]
  bv_omega

/-- With a zero parameter the command byte alone moves CK_LO through every value. -/
theorem loByte_frameChecksum_sub (b : Byte) : loByte (frameChecksum (0xFB - b) 0) = b := by
  have hb := b.isLt
  have hhi : (hiByte 0).toNat = 0 := rfl
  have hlo : (loByte 0).toNat = 0 := rfl
  apply BitVec.eq_of_toNat_eq
  rw [loByte_toNat, frameChecksum_toNat, hhi, hlo]
  bv_omega

/-- The checksum sees the parameter only through the sum of its bytes. -/
theorem frameChecksum_eq_of_byteSum_eq (c : Byte) {p q : Half}
    (h : (hiByte p).toNat + (loByte p).toNat = (hiByte q).toNat + (loByte q).toNat) :
    frameChecksum c p = frameChecksum c q := by
  apply BitVec.eq_of_toNat_eq
  rw [frameChecksum_toNat, frameChecksum_toNat, Nat.add_assoc _ (hiByte p).toNat, h, ← Nat.add_assoc]

/-! ## The FULL frame as a reply (R73) -/

/-- The ten bytes of the FULL frame, field by field: what VAL is given when it examines an outgoing frame. -/
def fullReply (c : Byte) (p : Half) : Reply :=
  ⟨startByte, versionByte, lengthByte, c, feedbackByte, hiByte p, loByte p,
   hiByte (frameChecksum c p), loByte (frameChecksum c p), endByte⟩

theorem wireFrame_true_eq_bytes (c : Byte) (p : Half) : wireFrame true c p = (fullReply c p).bytes := rfl

theorem wireFrame_false_eq_take (c : Byte) (p : Half) :
    wireFrame false c p = (fullReply c p).bytes.take 7 ++ [0xEF] := rfl

theorem replyOk_fullReply (c : Byte) (p : Half) : Machine.replyOk (fullReply c p) = true :=
  (Machine.replyOk_iff _).mpr ⟨rfl, rfl, rfl⟩

end Sys2Proof

namespace Sys2Proof.Machine

/-! ## ENC (R70) -/

/-- ENC on a free machine returns the frame CKEN selects and writes only the result. -/
theorem exec_enc {s : State} {cken : Bool} (hw : s.waiting = none) (hcken : s.cken = cken) (c : Byte) (p : Half) :
    exec (.enc c p) s = .next (s.ret (.frame (if cken then 10 else 8) (wireFrame cken c p))) := by
  rw [exec_free hw, effectOf, encodeFrame_eq, hcken]

end Sys2Proof.Machine

namespace Sys2Proof.Proofs

open Sys2Proof.Machine

/-- Settles O15: each bullet of R72 is a fact of the exact checksum. -/
theorem checksumArithmetic : Obligations.ChecksumArithmetic := by
  refine ⟨by decide, fun c p => ?_, fun b => ⟨0xFB - b, 0, loByte_frameChecksum_sub b⟩,
    fun c _ _ h => frameChecksum_eq_of_byteSum_eq c h⟩
  intro sum
  have hexact : (frameChecksum c p).toNat = 65536 - sum := frameChecksum_toNat c p
  obtain ⟨hlow, hhigh⟩ := frameChecksum_bounds c p
  exact ⟨by omega, by omega, hexact, hlow, hhigh, hiByte_frameChecksum_mem c p, by omega⟩

/-- Settles O16: the FULL result is the bytes of `fullReply`, which carries its own checksum and passes VAL. -/
theorem encRoundTripPrefixAndAcceptance : Obligations.EncRoundTripPrefixAndAcceptance := by
  intro c p s hw
  refine ⟨fullReply c p, ?full, ?checksum, ?short, ?accepted⟩
  case full =>
    rw [← wireFrame_true_eq_bytes]
    exact exec_enc (s := { s with cken := true }) hw rfl c p
  case checksum => exact (joinBytes_hiByte_loByte _).trans (frameChecksum_eq_zero_sub c p)
  case short =>
    rw [← wireFrame_false_eq_take]
    exact exec_enc (s := { s with cken := false }) hw rfl c p
  case accepted =>
    rw [exec_free hw, effectOf, replyOk_fullReply]
    rfl

/-- Settles O2: the two formats are lists of ten and of eight bytes, and the two forms of R71's sum agree. -/
theorem frameFormatsAndChecksum : Obligations.FrameFormatsAndChecksum := by
  intro c p ck hck
  obtain rfl : ck = frameChecksum c p := hck.trans (frameChecksum_eq_zero_sub c p).symm
  exact ⟨rfl, rfl⟩

/-- Settles O14: ENC returns the frame of O2 with its length. -/
theorem encReturnsFrame : Obligations.EncReturnsFrame := by
  intro c p s ck hw hck
  obtain ⟨hfull, hshort⟩ := frameFormatsAndChecksum c p ck hck
  rw [← hfull, ← hshort]
  exact ⟨fun hcken => exec_enc hw hcken c p, fun hcken => exec_enc hw hcken c p⟩

/-- Settles O18: the effect of SETCK is the write of CKEN, with no result. -/
theorem setckWritesCken : Obligations.SetckWritesCken :=
  fun en _ hw => exec_free hw (.setck en)

end Sys2Proof.Proofs
end

section
/-! SUPPORT. The validator and the reply decoder's register operations (41_validator_decoder.md): what VAL, CLR and RD
answer on a free machine. -/

namespace Sys2Proof.Machine

/-! ## VAL (R85, R86) -/

/-- The structural check as the conjunction R85 writes. -/
theorem replyOk_eq_decide (f : Reply) : replyOk f = decide (f.start = 0x7E ∧ f.length = 0x06 ∧ f.stop = 0xEF) :=
  Bool.eq_iff_iff.mpr ((replyOk_iff f).trans decide_eq_true_iff.symm)

/-- The structural check sees bytes 0, 2 and 9 only (R86). -/
theorem replyOk_congr {f g : Reply} (hstart : f.start = g.start) (hlength : f.length = g.length)
    (hstop : f.stop = g.stop) : replyOk f = replyOk g := by
  rw [replyOk, replyOk, hstart, hlength, hstop]

/-- VAL on a free machine returns the structural check and writes only the result. -/
theorem exec_val {s : State} (hw : s.waiting = none) (f : Reply) :
    exec (.val f) s = .next (s.ret (.ok (replyOk f))) :=
  exec_free hw (.val f)

/-! ## CLR and RD (R92, R93) -/

/-- CLR on a free machine clears its register and returns nothing. -/
theorem exec_clr {s : State} (hw : s.waiting = none) (r : CacheReg) :
    exec (.clr r) s = .next ((s.clear r).ret .none) :=
  exec_free hw (.clr r)

/-- RD on a free machine returns its register and writes only the result. -/
theorem exec_rd {s : State} (hw : s.waiting = none) (r : CacheReg) :
    exec (.rd r) s = .next (s.ret (s.read r)) :=
  exec_free hw (.rd r)

end Sys2Proof.Machine

namespace Sys2Proof.Proofs

open Sys2Proof.Machine

/-- Settles O20: VAL returns the structural check, which is R85's conjunction. -/
theorem valChecksThreeBytes : Obligations.ValChecksThreeBytes := by
  intro f s hw
  rw [exec_val hw, replyOk_eq_decide]
  rfl

/-- Settles O21: both replies get the structural check of the first. -/
theorem valIgnoresTheRest : Obligations.ValIgnoresTheRest := by
  intro f g s t hstart hlength hstop hs ht
  refine ⟨replyOk f, exec_val hs f, ?_⟩
  rw [replyOk_congr hstart hlength hstop]
  exact exec_val ht g

/-- Settles O25: the effect of CLR is the write of zero to its register, with no result. -/
theorem clrWritesSentinel : Obligations.ClrWritesSentinel :=
  fun _ hw => ⟨exec_clr hw .status, exec_clr hw .volume, exec_clr hw .numtracks, exec_clr hw .curtrack⟩

/-- Settles O26: the effect of RD is its register as the result, in the register's width. -/
theorem rdReturnsRegister : Obligations.RdReturnsRegister :=
  fun _ hw => ⟨exec_rd hw .status, exec_rd hw .volume, exec_rd hw .numtracks, exec_rd hw .curtrack⟩

end Sys2Proof.Proofs
end

section
/-! SUPPORT. The fire-and-forget commands (42_commands.md R100 to R113): each appends to TX the frame that the opcode
table gives its row, and SETVOL's parameter never exceeds the ceiling. -/

namespace Sys2Proof.Machine

/-! ## One frame (R100, R112) -/

/-- An operation whose effect is one SEND completes, and only TX and the result change. -/
theorem exec_sends {i : Instr} {s : State} {c : Byte} {p : Half} (hw : s.waiting = none)
    (he : effectOf i s = (s.send c p).ret .none) :
    exec i s = .next ((s.txWrite (wireFrame s.cken c p)).ret .none) := by
  rw [exec_free hw, he, State.send_eq]

/-- The effect of a command is the SEND of its row's COMMAND and PARAMETER (R56). -/
theorem effectOf_command {i : Instr} (hi : isCommand i = true) (s : State) :
    ∃ c p, i.wireFields s.maxvol = some (c, p) ∧ effectOf i s = (s.send c p).ret .none := by
  cases i with
  | next | prev | play | volup | voldn | setvol | seteq | setmode | resume | pause => exact ⟨_, _, rfl, rfl⟩
  | _ => cases hi

/-- A command completes and appends its encoding, a frame of the length CKEN selects. -/
theorem exec_command {i : Instr} {s : State} (hi : isCommand i = true) (hw : s.waiting = none) :
    ∃ bs, encode s.cken s.maxvol i = some bs ∧ bs.length = (if s.cken then 10 else 8) ∧
      exec i s = .next ((s.txWrite bs).ret .none) := by
  obtain ⟨c, p, hfields, he⟩ := effectOf_command hi s
  exact ⟨_, encode_of_wireFields hfields s.cken, wireFrame_length s.cken c p, exec_sends hw he⟩

/-! ## SETVOL's parameter (R106) -/

theorem zext16_le_zext16 {a b : Byte} (h : a ≤ b) : zext16 a ≤ zext16 b := by
  have hb := b.isLt
  simp only [zext16, BitVec.le_def, BitVec.toNat_setWidth] at h ⊢
  omega

/-- A volume at or above the ceiling is clamped to it. -/
theorem clampVolume_of_le {m v : Byte} (h : m ≤ v) : clampVolume m v = m :=
  BitVec.le_antisymm (clampVolume_le m v) <| by
    rw [BitVec.le_def] at h ⊢
    rw [clampVolume, minByte_toNat]
    omega

theorem exec_setvol {s : State} (hw : s.waiting = none) (v : Byte) :
    exec (.setvol v) s = .next ((s.txWrite (wireFrame s.cken opSetVol (zext16 (clampVolume s.maxvol v)))).ret .none) :=
  exec_sends hw rfl

/-! ## SETMODE's frame (R108) -/

/-- The frame that FolderRepeat and SinglePlay share, in both lengths. -/
theorem wireFrame_setmode_one (cken : Bool) :
    wireFrame cken opSetMode 0x0001 =
      if cken then [0x7E, 0xFF, 0x06, 0x08, 0x00, 0x00, 0x01, 0xFE, 0xF2, 0xEF]
      else [0x7E, 0xFF, 0x06, 0x08, 0x00, 0x00, 0x01, 0xEF] := by
  cases cken <;> decide

theorem exec_setmode {s : State} (hw : s.waiting = none) (m : PlayMode) :
    exec (.setmode m) s = .next ((s.txWrite (wireFrame s.cken opSetMode (modeCode m))).ret .none) :=
  exec_sends hw rfl

end Sys2Proof.Machine

namespace Sys2Proof.Proofs

open Sys2Proof.Machine

/-- Settles O12: on a free machine every operation has its effect. -/
theorem everyOperationRuns : Obligations.EveryOperationRuns :=
  fun i s hw => ⟨effectOf i s, exec_free hw i⟩

/-- Settles O33: the clamped volume is at most MAXVOL, which the invariant keeps at most 30. -/
theorem setvolNeverAboveThirty : Obligations.SetvolNeverAboveThirty := by
  intro v s hinv hw
  have hclamp : clampVolume s.maxvol v ≤ s.maxvol := clampVolume_le s.maxvol v
  refine ⟨⟨zext16 (clampVolume s.maxvol v), ?_, zext16_le_zext16 hclamp, exec_setvol hw v⟩, fun hv => ?_⟩
  · exact zext16_le_zext16 (BitVec.le_trans hclamp hinv.ceiling)
  · rw [exec_setvol hw, exec_setvol hw, clampVolume_of_le hv, clampVolume_self]

/-- Settles O37: a command appends its encoding, whose length CKEN selects. -/
theorem commandsChangeOnlyTx : Obligations.CommandsChangeOnlyTx := by
  intro i s hi hw
  obtain ⟨bs, -, hlen, hexec⟩ := exec_command hi hw
  exact ⟨bs, hlen, hexec⟩

/-- Settles O38: the encoding depends on the state only through CKEN and MAXVOL. -/
theorem repeatedCommandRepeatsFrame : Obligations.RepeatedCommandRepeatsFrame := by
  intro i s u hi hs hu hcken hmaxvol
  obtain ⟨bs, henc, hlen, hexec⟩ := exec_command hi hs
  obtain ⟨bs', henc', -, hexec'⟩ := exec_command hi hu
  rw [← hcken, ← hmaxvol, henc] at henc'
  obtain rfl : bs = bs' := Option.some.inj henc'
  have hne : bs ≠ [] := by
    rintro rfl
    split at hlen <;> cases hlen
  exact ⟨bs, hne, hexec, hexec'⟩

/-- Settles O29: the effect of SEND is one frame. -/
theorem sendAppendsFrame : Obligations.SendAppendsFrame :=
  fun _ _ _ hw => exec_sends hw rfl

/-- Settles O31: the effect of PLAY is the SEND of its track as it is. -/
theorem playSendsTrack : Obligations.PlaySendsTrack :=
  fun _ _ hw => exec_sends hw rfl

/-- Settles O34: the effect of SETEQ is the SEND of the preset's code, which stays uninterpreted. -/
theorem seteqSendsPresetCode : Obligations.SeteqSendsPresetCode :=
  fun _ _ hw => exec_sends hw rfl

/-- Settles O35: each mode sends its code, and SinglePlay and FolderRepeat have the same one. -/
theorem setmodeSendsModeCode : Obligations.SetmodeSendsModeCode := by
  intro s hw
  refine ⟨?folderRepeat, ?collision, exec_setmode hw .singleRepeat, exec_setmode hw .random⟩
  case folderRepeat =>
    rw [← wireFrame_setmode_one]
    exact exec_setmode hw .folderRepeat
  case collision =>
    rw [exec_setmode hw, exec_setmode hw]
    rfl

end Sys2Proof.Proofs
end

section
/-! SUPPORT. The query protocol on an answered read (43_queries.md R120 to R126): the state in which a query leaves the
machine when ten bytes are in RX, register by register, and what the named queries and the accessors return from it. -/

namespace Sys2Proof.Machine

/-! ## DEC, register by register (R88 to R90) -/

/-- What `store` leaves in each cached register, by the reply's command byte. -/
theorem State.store_eq (f : Reply) (s : State) : s.store f = { s with
    status := if f.command = 0x42 then f.dataLo else s.status
    volume := if f.command = 0x43 then f.dataLo else s.volume
    numtracks := if f.command = 0x47 then joinBytes f.dataHi f.dataLo else s.numtracks
    curtrack := if f.command = 0x4C then joinBytes f.dataHi f.dataLo else s.curtrack } := by
  rcases State.store_cases f s with ⟨hc, h⟩ | ⟨hc, h⟩ | ⟨hc, h⟩ | ⟨hc, h⟩ | ⟨h1, h2, h3, h4, h⟩ <;> rw [h]
  · simp [hc, State.setStatus]
  · simp [hc, State.setVolume]
  · simp [hc, State.setNumtracks]
  · simp [hc, State.setCurtrack]
  · rw [if_neg h1, if_neg h2, if_neg h3, if_neg h4]

theorem State.store_status {f : Reply} (hc : f.command = 0x42) (s : State) : s.store f = s.setStatus f.dataLo := by
  simp [State.store, hc]

theorem State.store_volume {f : Reply} (hc : f.command = 0x43) (s : State) : s.store f = s.setVolume f.dataLo := by
  simp [State.store, hc]

theorem State.store_numtracks {f : Reply} (hc : f.command = 0x47) (s : State) :
    s.store f = s.setNumtracks (joinBytes f.dataHi f.dataLo) := by
  simp [State.store, hc]

theorem State.store_curtrack {f : Reply} (hc : f.command = 0x4C) (s : State) :
    s.store f = s.setCurtrack (joinBytes f.dataHi f.dataLo) := by
  simp [State.store, hc]

/-! ## The state a query leaves (R120) -/

/-- `s` after the query of opcode `q` and register `r` has taken the reply `f` and decoded it, with `rest` left in RX:
all of R120 but the result. -/
def State.queried (q : Byte) (r : CacheReg) (f : Reply) (rest : List Byte) (s : State) : State :=
  (decodeReply f (((s.clear r).txWrite (wireFrame s.cken q 0)).setRx rest)).2

/-- The state a query leaves, field by field: a register holds the value of a well-formed reply of its kind, else zero
if it is the register queried, else what it held. -/
theorem State.queried_eq {f : Reply} {ok : Bool} (hok : replyOk f = ok) (q : Byte) (r : CacheReg) (rest : List Byte)
    (s : State) : s.queried q r f rest = { s with
      status := if ok = true ∧ f.command = 0x42 then f.dataLo else if r = .status then 0 else s.status
      volume := if ok = true ∧ f.command = 0x43 then f.dataLo else if r = .volume then 0 else s.volume
      numtracks := if ok = true ∧ f.command = 0x47 then joinBytes f.dataHi f.dataLo
        else if r = .numtracks then 0 else s.numtracks
      curtrack := if ok = true ∧ f.command = 0x4C then joinBytes f.dataHi f.dataLo
        else if r = .curtrack then 0 else s.curtrack
      tx := s.tx ++ wireFrame s.cken q 0
      rx := rest } := by
  rw [State.queried, decodeReply_snd, hok]
  cases ok with
  | false => simp only [Bool.false_eq_true, false_and, if_false]; cases r <;> rfl
  | true => simp only [true_and, if_true, State.store_eq]; cases r <;> rfl

/-- A valid reply of the kind of the register queried overwrites the sentinel: only the store is seen. -/
theorem State.queried_ownKind {f : Reply} (hok : replyOk f = true) {r : CacheReg} (hc : f.command = r.queryOpcode)
    (q : Byte) (rest : List Byte) (s : State) :
    s.queried q r f rest = ((s.store f).txWrite (wireFrame s.cken q 0)).setRx rest := by
  rw [State.queried_eq hok, State.store_eq]
  cases r <;> simp [hc, CacheReg.queryOpcode, State.txWrite, State.setRx]

/-- A valid reply of another kind leaves the sentinel (R126): the store and the clear are both seen. -/
theorem State.queried_otherKind {f : Reply} (hok : replyOk f = true) {r : CacheReg} (hc : f.command ≠ r.queryOpcode)
    (q : Byte) (rest : List Byte) (s : State) :
    s.queried q r f rest = (((s.store f).clear r).txWrite (wireFrame s.cken q 0)).setRx rest := by
  rw [State.queried_eq hok, State.store_eq]
  cases r
  all_goals
    simp only [CacheReg.queryOpcode] at hc
    simp only [true_and, if_neg hc]
    rfl

/-- With ten bytes in RX the query protocol goes to its continuation, and no operation is in flight. -/
theorem runQuery_bytes {s : State} {f : Reply} {rest : List Byte} (hw : s.waiting = none) (hrx : s.rx = f.bytes ++ rest)
    (q : Byte) (r : CacheReg) (k : Await) : runQuery q r k s = finish k (replyOk f) (s.queried q r f rest) := by
  have hdone : (s.queried q r f rest).done = s.queried q r f rest := by
    have hfree : (s.queried q r f rest).waiting = none := by simpa [State.queried] using hw
    rw [State.done, ← hfree]
  have hread : ((s.clear r).send q 0).rx = f.bytes ++ rest := by simpa using hrx
  rw [runQuery, receive_bytes k hread, State.send_eq, State.clear_cken]
  exact congrArg _ hdone

section

variable {i j : Instr} {s u : State} {f : Reply} {rest : List Byte} {q : Byte} {r : CacheReg}

/-- A query answered by a valid reply of its kind stores it, sends the query frame, takes the reply and returns
`ok = 1`. -/
theorem exec_query_ownKind (hw : s.waiting = none) (hrx : s.rx = f.bytes ++ rest) (hok : replyOk f = true)
    (hc : f.command = r.queryOpcode) (hi : effectOf i s = runQuery q r (.query r) s) (hstore : s.store f = u) :
    exec i s = .next (((u.txWrite (wireFrame s.cken q 0)).setRx rest).ret (.ok true)) := by
  rw [exec_free hw, hi, runQuery_bytes hw hrx, hok, State.queried_ownKind hok hc, hstore, finish_query]

/-- A query and the accessor of its register, answered by a valid reply of another kind, leave the register at zero; the
query returns `ok = 1` and the accessor the register. -/
theorem exec_query_accessor_otherKind (hw : s.waiting = none) (hrx : s.rx = f.bytes ++ rest) (hok : replyOk f = true)
    (hc : f.command ≠ r.queryOpcode) (hi : effectOf i s = runQuery q r (.query r) s)
    (hj : effectOf j s = runQuery q r (.accessor r) s)
    (hleft : (((s.store f).clear r).txWrite (wireFrame s.cken q 0)).setRx rest = u) :
    exec i s = .next (u.ret (.ok true)) ∧ exec j s = .next (u.ret (u.read r)) := by
  rw [exec_free hw, exec_free hw, hi, hj, runQuery_bytes hw hrx, runQuery_bytes hw hrx, hok,
    State.queried_otherKind hok hc, hleft]
  exact ⟨rfl, rfl⟩

end

/-- The four query frames, in both lengths (R121 to R124, R56). -/
theorem wireFrame_queries (cken : Bool) :
    wireFrame cken 0x42 0 = (if cken then [0x7E, 0xFF, 0x06, 0x42, 0x00, 0x00, 0x00, 0xFE, 0xB9, 0xEF]
      else [0x7E, 0xFF, 0x06, 0x42, 0x00, 0x00, 0x00, 0xEF]) ∧
    wireFrame cken 0x43 0 = (if cken then [0x7E, 0xFF, 0x06, 0x43, 0x00, 0x00, 0x00, 0xFE, 0xB8, 0xEF]
      else [0x7E, 0xFF, 0x06, 0x43, 0x00, 0x00, 0x00, 0xEF]) ∧
    wireFrame cken 0x47 0 = (if cken then [0x7E, 0xFF, 0x06, 0x47, 0x00, 0x00, 0x00, 0xFE, 0xB4, 0xEF]
      else [0x7E, 0xFF, 0x06, 0x47, 0x00, 0x00, 0x00, 0xEF]) ∧
    wireFrame cken 0x4C 0 = (if cken then [0x7E, 0xFF, 0x06, 0x4C, 0x00, 0x00, 0x00, 0xFE, 0xAF, 0xEF]
      else [0x7E, 0xFF, 0x06, 0x4C, 0x00, 0x00, 0x00, 0xEF]) := by
  cases cken <;> decide

end Sys2Proof.Machine

namespace Sys2Proof.Proofs

open Sys2Proof.Machine

/-- Settles O39: the reply is of the query's own kind, so its value overwrites the sentinel in the register queried, and
every other register is as before. -/
theorem queriesStoreTheirReply : Obligations.QueriesStoreTheirReply := by
  intro f rest s hw hrx hstart hlength hstop
  have hok : replyOk f = true := (replyOk_iff f).mpr ⟨hstart, hlength, hstop⟩
  obtain ⟨hstatus, hvolume, hnumtracks, hcurtrack⟩ := wireFrame_queries s.cken
  refine ⟨fun hc => ?status, fun hc => ?volume, fun hc => ?numtracks, fun hc => ?curtrack⟩
  case status =>
    rw [← hstatus]
    exact exec_query_ownKind (r := .status) hw hrx hok hc rfl (State.store_status hc s)
  case volume =>
    rw [← hvolume]
    exact exec_query_ownKind (r := .volume) hw hrx hok hc rfl (State.store_volume hc s)
  case numtracks =>
    rw [← hnumtracks]
    exact exec_query_ownKind (r := .numtracks) hw hrx hok hc rfl (State.store_numtracks hc s)
  case curtrack =>
    rw [← hcurtrack]
    exact exec_query_ownKind (r := .curtrack) hw hrx hok hc rfl (State.store_curtrack hc s)

/-- Settles O41: the reply is not of the query's own kind, so the register queried keeps the sentinel; the query and its
accessor leave that same state. -/
theorem replyOfAnotherKindLeavesSentinel : Obligations.ReplyOfAnotherKindLeavesSentinel := by
  intro f rest s t hw hrx hstart hlength hstop
  have hok : replyOk f = true := (replyOk_iff f).mpr ⟨hstart, hlength, hstop⟩
  refine ⟨fun hc ht => ?status, fun hc ht => ?volume, fun hc ht => ?numtracks, fun hc ht => ?curtrack⟩
  case status =>
    subst ht
    exact exec_query_accessor_otherKind (r := .status) hw hrx hok hc rfl rfl (by rw [State.store_eq]; rfl)
  case volume =>
    subst ht
    exact exec_query_accessor_otherKind (r := .volume) hw hrx hok hc rfl rfl (by rw [State.store_eq]; rfl)
  case numtracks =>
    subst ht
    exact exec_query_accessor_otherKind (r := .numtracks) hw hrx hok hc rfl rfl (by rw [State.store_eq]; rfl)
  case curtrack =>
    subst ht
    exact exec_query_accessor_otherKind (r := .curtrack) hw hrx hok hc rfl rfl (by rw [State.store_eq]; rfl)

end Sys2Proof.Proofs
end

section
/-! SUPPORT. The one failure of the block and what follows it (60_exceptions.md R136 to R140): a malformed reply is
`ok = 0` from every operation that examines it, and no step of the machine faults or is refused. -/

namespace Sys2Proof.Machine

/-! ## A malformed reply (R136, R140) -/

/-- Any of the three checked bytes alone makes a reply malformed. -/
theorem replyOk_eq_false {f : Reply} (h : f.start ≠ 0x7E ∨ f.length ≠ 0x06 ∨ f.stop ≠ 0xEF) : replyOk f = false := by
  rw [replyOk_eq_decide, decide_eq_false_iff_not, not_and_or, not_and_or]
  exact h

/-- DEC of a malformed reply returns `ok = 0` and writes only the result. -/
theorem exec_dec_malformed {s : State} {f : Reply} (hw : s.waiting = none) (hok : replyOk f = false) :
    exec (.dec f) s = .next (s.ret (.ok false)) := by
  rw [exec_free hw, effectOf, decodeReply_malformed hok]

/-- A query whose reply is malformed stores nothing: the sentinel, the query frame and the taken bytes stand (R139). -/
theorem State.queried_malformed {f : Reply} (hok : replyOk f = false) (q : Byte) (r : CacheReg) (rest : List Byte)
    (s : State) : s.queried q r f rest = ((s.clear r).txWrite (wireFrame s.cken q 0)).setRx rest := by
  rw [State.queried, decodeReply_malformed hok]

section

variable {s : State} {f : Reply} {rest : List Byte} {i : Instr} {q : Byte}

/-- A query, by its opcode or by its name, answered by a malformed reply leaves the sentinel and returns `ok = 0`. -/
theorem exec_query_malformed (hw : s.waiting = none) (hok : replyOk f = false) (hrx : s.rx = f.bytes ++ rest)
    (r : CacheReg) (hi : effectOf i s = runQuery q r (.query r) s) :
    exec i s = .next ((((s.clear r).txWrite (wireFrame s.cken q 0)).setRx rest).ret (.ok false)) := by
  rw [exec_free hw, hi, runQuery_bytes hw hrx, State.queried_malformed hok, finish_query, hok]

/-- An accessor answered by a malformed reply leaves what its query leaves, and returns the cleared register (R125,
D26). -/
theorem exec_accessor_malformed (hw : s.waiting = none) (hok : replyOk f = false) (hrx : s.rx = f.bytes ++ rest)
    (r : CacheReg) (hi : effectOf i s = runQuery q r (.accessor r) s) :
    exec i s = .next ((((s.clear r).txWrite (wireFrame s.cken q 0)).setRx rest).ret ((s.clear r).read r)) := by
  rw [exec_free hw, hi, runQuery_bytes hw hrx, State.queried_malformed hok, finish_accessor]
  cases r <;> rfl

end

end Sys2Proof.Machine

namespace Sys2Proof.Proofs

open Sys2Proof.Machine

/-- Settles O11: a read in flight goes on or waits, an operation is issued only on a free machine, where it has its
effect, and with none left only the arrivals happen. -/
theorem stepAlwaysAnswersNext : Obligations.StepAlwaysAnswersNext := by
  intro s
  rcases step_cases s with ⟨k, -, hs⟩ | ⟨i, rest, hw, -, hs⟩ | ⟨-, -, hs⟩
  · exact ⟨_, hs⟩
  · rw [hs]
    exact everyOperationRuns i (s.deliver.setOps rest) (by simpa using hw)
  · exact ⟨_, hs⟩

/-- Settles O24: the failed check keeps the reply out of every register, so what stands is what each operation did
before it: nothing for VAL and DEC, the query protocol up to the read for the others. -/
theorem malformedReplyTrace : Obligations.MalformedReplyTrace := by
  intro f s hw hbad
  have hok : replyOk f = false := replyOk_eq_false hbad
  refine ⟨hok ▸ exec_val hw f, exec_dec_malformed hw hok, fun rest hrx => ?_⟩
  have hquery {i : Instr} {q : Byte} := exec_query_malformed (i := i) (q := q) hw hok hrx
  have haccessor {i : Instr} {q : Byte} := exec_accessor_malformed (i := i) (q := q) hw hok hrx
  exact ⟨hquery .status rfl, hquery .status rfl, haccessor .status rfl,
    hquery .volume rfl, hquery .volume rfl, haccessor .volume rfl,
    hquery .numtracks rfl, hquery .numtracks rfl, haccessor .numtracks rfl,
    hquery .curtrack rfl, hquery .curtrack rfl, haccessor .curtrack rfl⟩

end Sys2Proof.Proofs
end

section
/-! SUPPORT. A wait that stays short of its tenth byte (20_memory.md R32, 70_reset_and_hazards.md R159): each step only
takes the arrivals in, however many steps are made. -/

namespace Sys2Proof.Machine

/-- Waiting again changes nothing in a state that waits and has returned nothing. -/
theorem await_eq_self {s : State} {k : Await} (hw : s.waiting = some k) (hret : s.result = .none) : s.await k = s := by
  rw [State.await, ← hw, ← hret]

/-- The arrivals move bytes into RX and lose none. -/
theorem deliver_rx_append_flatten (s : State) :
    s.deliver.rx ++ s.deliver.arrivals.flatten = s.rx ++ s.arrivals.flatten := by
  rw [deliver_rx, deliver_arrivals]
  cases s.arrivals <;> simp

/-- One step's arrivals and then those of `n` more are the arrivals of `n + 1` steps. -/
theorem deliver_feed_take (n : Nat) (s : State) :
    s.deliver.feed (s.deliver.arrivals.take n).flatten (s.deliver.arrivals.drop n) =
      s.feed (s.arrivals.take (n + 1)).flatten (s.arrivals.drop (n + 1)) := by
  rw [deliver_eq]
  cases h : s.arrivals <;> simp [State.feed]

/-- While the tenth byte is missing a step of a waiting machine is the arrivals alone. -/
theorem step_starved {s : State} {k : Await} (hw : s.waiting = some k) (hret : s.result = .none)
    (hshort : s.deliver.rx.length < 10) : step s = .next s.deliver := by
  have hstays : receive k s.deliver = s.deliver := by
    rw [receive_short k hshort, await_eq_self (by simpa using hw) (by simpa using hret)]
  simp only [step, deliver_waiting, hw, hstays]

/-- A device that delivers fewer than ten bytes in all keeps the operation waiting through any number of steps. -/
theorem runSteps_starved {k : Await} (n : Nat) : ∀ s : State, s.waiting = some k → s.result = .none →
    (s.rx ++ s.arrivals.flatten).length < 10 →
    runSteps n s = .next (s.feed (s.arrivals.take n).flatten (s.arrivals.drop n)) := by
  induction n with
  | zero =>
    intro s _ _ _
    simp [runSteps, State.feed]
  | succ n ih =>
    intro s hw hret hshort
    rw [← deliver_rx_append_flatten] at hshort
    have hrx : s.deliver.rx.length < 10 := by
      rw [List.length_append] at hshort
      omega
    rw [runSteps_succ n (step_starved hw hret hrx), ih s.deliver (by simpa using hw) (by simpa using hret) hshort,
      deliver_feed_take]

end Sys2Proof.Machine

namespace Sys2Proof.Proofs

open Sys2Proof.Machine

/-- Settles O6: the three values that the reset state fixes (70_reset_and_hazards.md R155). -/
theorem resetDefaults : Obligations.ResetDefaults :=
  ⟨rfl, rfl, rfl⟩

/-- Settles O45: by the invariant a waiting operation has returned nothing, so every step of the starved wait is the
arrivals alone. -/
theorem unansweredReadBlocksForever : Obligations.UnansweredReadBlocksForever := by
  intro n s hinv hw hshort
  obtain ⟨k, hk⟩ := Option.ne_none_iff_exists'.mp hw
  exact runSteps_starved n s hk (hinv.unreturned hw) hshort

end Sys2Proof.Proofs
end

section
/-! SUPPORT. What is left of the operations on a free machine: DEC by the reply's command byte (41_validator_decoder.md
R88 to R90), the frames of the commands without an argument or with a narrow one (42_commands.md R101 to R110), the
query, the accessor and SETMAXVOL on an answered read (43_queries.md R120, R125; 42_commands.md R111), and who changes
MAXVOL (10_state.md R17). -/

namespace Sys2Proof.Machine

/-! ## DEC of a well-formed reply (R88 to R90) -/

/-- DEC of a well-formed reply stores what the reply carries and returns `ok = 1`. -/
theorem exec_dec_wellFormed {s : State} {f : Reply} (hw : s.waiting = none) (hok : replyOk f = true) :
    exec (.dec f) s = .next ((s.store f).ret (.ok true)) := by
  rw [exec_free hw, effectOf, decodeReply_wellFormed hok]

/-- A reply of no known kind carries nothing to store (R90). -/
theorem State.store_unknown {f : Reply} (hstatus : f.command ≠ 0x42) (hvolume : f.command ≠ 0x43)
    (hnumtracks : f.command ≠ 0x47) (hcurtrack : f.command ≠ 0x4C) (s : State) : s.store f = s := by
  rw [State.store_eq, if_neg hstatus, if_neg hvolume, if_neg hnumtracks, if_neg hcurtrack]

/-! ## The frames of the commands (R101 to R110) -/

/-- The frames of NEXT, PREV, VOLUP, VOLDN, RESUME and PAUSE, in both lengths (R56). -/
theorem wireFrame_argumentless (cken : Bool) :
    wireFrame cken opNext 0 = (if cken then [0x7E, 0xFF, 0x06, 0x01, 0x00, 0x00, 0x00, 0xFE, 0xFA, 0xEF]
      else [0x7E, 0xFF, 0x06, 0x01, 0x00, 0x00, 0x00, 0xEF]) ∧
    wireFrame cken opPrev 0 = (if cken then [0x7E, 0xFF, 0x06, 0x02, 0x00, 0x00, 0x00, 0xFE, 0xF9, 0xEF]
      else [0x7E, 0xFF, 0x06, 0x02, 0x00, 0x00, 0x00, 0xEF]) ∧
    wireFrame cken opVolUp 0 = (if cken then [0x7E, 0xFF, 0x06, 0x04, 0x00, 0x00, 0x00, 0xFE, 0xF7, 0xEF]
      else [0x7E, 0xFF, 0x06, 0x04, 0x00, 0x00, 0x00, 0xEF]) ∧
    wireFrame cken opVolDn 0 = (if cken then [0x7E, 0xFF, 0x06, 0x05, 0x00, 0x00, 0x00, 0xFE, 0xF6, 0xEF]
      else [0x7E, 0xFF, 0x06, 0x05, 0x00, 0x00, 0x00, 0xEF]) ∧
    wireFrame cken opResume 0 = (if cken then [0x7E, 0xFF, 0x06, 0x0D, 0x00, 0x00, 0x00, 0xFE, 0xEE, 0xEF]
      else [0x7E, 0xFF, 0x06, 0x0D, 0x00, 0x00, 0x00, 0xEF]) ∧
    wireFrame cken opPause 0 = (if cken then [0x7E, 0xFF, 0x06, 0x0E, 0x00, 0x00, 0x00, 0xFE, 0xED, 0xEF]
      else [0x7E, 0xFF, 0x06, 0x0E, 0x00, 0x00, 0x00, 0xEF]) := by
  cases cken <;> decide

/-- Bytes 5 and 6 of a frame are its PARAMETER, in both lengths (R51, R52). -/
theorem wireFrame_param (cken : Bool) (c : Byte) (p : Half) :
    (wireFrame cken c p)[5]? = some (hiByte p) ∧ (wireFrame cken c p)[6]? = some (loByte p) := by
  cases cken <;> exact ⟨rfl, rfl⟩

/-- An operation that sends a narrow argument leaves byte 5 of its frame zero and puts the argument into byte 6
(R54). -/
theorem exec_sends_narrow {i : Instr} {s : State} {c b : Byte} (hw : s.waiting = none)
    (he : effectOf i s = (s.send c (b.setWidth 16)).ret .none) :
    ∃ bs, exec i s = .next ((s.txWrite bs).ret .none) ∧ bs[5]? = some 0x00 ∧ bs[6]? = some b := by
  obtain ⟨hhi, hlo⟩ := wireFrame_param s.cken c (b.setWidth 16)
  rw [hiByte_setWidth] at hhi
  rw [loByte_setWidth] at hlo
  exact ⟨_, exec_sends hw he, hhi, hlo⟩

/-- The volume SETVOL sends, as a number (R106). -/
theorem clampVolume_eq (m v : Byte) : clampVolume m v = BitVec.ofNat 8 (min v.toNat m.toNat) := by
  rw [← minByte_toNat, BitVec.ofNat_toNat, BitVec.setWidth_eq, clampVolume]

/-- The PARAMETER SETVOL sends, as a number (R54, R106). -/
theorem zext16_clampVolume (m v : Byte) : zext16 (clampVolume m v) = BitVec.ofNat 16 (min v.toNat m.toNat) := by
  rw [← minByte_toNat, BitVec.ofNat_toNat, zext16, clampVolume]

/-! ## The query protocol on an answered read (R120, R125, R111) -/

@[simp] theorem State.queried_tx (q : Byte) (r : CacheReg) (f : Reply) (rest : List Byte) (s : State) :
    (s.queried q r f rest).tx = s.tx ++ wireFrame s.cken q 0 := by
  simp [State.queried]

@[simp] theorem State.queried_rx (q : Byte) (r : CacheReg) (f : Reply) (rest : List Byte) (s : State) :
    (s.queried q r f rest).rx = rest := by
  simp [State.queried]

@[simp] theorem State.queried_waiting (q : Byte) (r : CacheReg) (f : Reply) (rest : List Byte) (s : State) :
    (s.queried q r f rest).waiting = s.waiting := by
  simp [State.queried]

/-! The register a query has cleared holds the value of a well-formed reply of its kind, else zero. -/

section

variable {f : Reply} {ok : Bool} (hok : replyOk f = ok) (q : Byte) (rest : List Byte) (s : State)

include hok

theorem State.queried_status :
    (s.queried q .status f rest).status = if ok = true ∧ f.command = 0x42 then f.dataLo else 0 := by
  rw [State.queried_eq hok, if_pos rfl]

theorem State.queried_volume :
    (s.queried q .volume f rest).volume = if ok = true ∧ f.command = 0x43 then f.dataLo else 0 := by
  rw [State.queried_eq hok, if_pos (c := CacheReg.volume = .volume) rfl]

theorem State.queried_numtracks : (s.queried q .numtracks f rest).numtracks =
    if ok = true ∧ f.command = 0x47 then joinBytes f.dataHi f.dataLo else 0 := by
  rw [State.queried_eq hok, if_pos (c := CacheReg.numtracks = .numtracks) rfl]

theorem State.queried_curtrack : (s.queried q .curtrack f rest).curtrack =
    if ok = true ∧ f.command = 0x4C then joinBytes f.dataHi f.dataLo else 0 := by
  rw [State.queried_eq hok, if_pos (c := CacheReg.curtrack = .curtrack) rfl]

end

section

variable {i : Instr} {s : State} {f : Reply} {rest : List Byte} {q : Byte} {r : CacheReg}

/-- A query on an answered read leaves the queried state and returns the structural check. -/
theorem exec_query_answered (hw : s.waiting = none) (hrx : s.rx = f.bytes ++ rest)
    (hi : effectOf i s = runQuery q r (.query r) s) :
    exec i s = .next ((s.queried q r f rest).ret (.ok (replyOk f))) := by
  rw [exec_free hw, hi, runQuery_bytes hw hrx, finish_query]

/-- An accessor on an answered read leaves the queried state and returns its register. -/
theorem exec_accessor_answered (hw : s.waiting = none) (hrx : s.rx = f.bytes ++ rest)
    (hi : effectOf i s = runQuery q r (.accessor r) s) :
    exec i s = .next ((s.queried q r f rest).ret ((s.queried q r f rest).read r)) := by
  rw [exec_free hw, hi, runQuery_bytes hw hrx, finish_accessor]

end

/-- SETMAXVOL's last part: one frame or none, and no result (R111). -/
theorem finish_setMaxVol (ok : Bool) (s : State) : finish .setMaxVol ok s =
    (s.txWrite (if s.maxvol < s.volume then wireFrame s.cken opSetVol (zext16 s.maxvol) else [])).ret .none := by
  by_cases h : s.maxvol < s.volume
  · rw [finish_setMaxVol_below h, if_pos h, State.sendVolume, clampVolume_self, State.send_eq]
  · rw [finish_setMaxVol_notBelow h, if_neg h, State.txWrite, List.append_nil]

/-- SETMAXVOL on an answered read stores its ceiling, runs the volume query from there, and lowers the volume. -/
theorem exec_setmaxvol_answered {s : State} {f : Reply} {rest : List Byte} (hw : s.waiting = none)
    (hrx : s.rx = f.bytes ++ rest) (v : Byte) : exec (.setmaxvol v) s =
      .next (finish .setMaxVol (replyOk f) ((s.setMaxvol (clampCeiling v)).queried opQVol .volume f rest)) := by
  rw [exec_free hw, effectOf, runQuery_bytes (s := s.setMaxvol (clampCeiling v)) hw hrx]

/-! ## MAXVOL (R17) -/

/-- A step leaves MAXVOL alone, or it issues a SETMAXVOL, which stores its clamped operand. -/
theorem step_maxvol {s t : State} (h : step s = .next t) :
    t.maxvol = s.maxvol ∨
    (s.waiting = none ∧ ∃ v rest, s.ops = .setmaxvol v :: rest ∧ t.maxvol = clampCeiling v) := by
  rcases step_next_cases h with ⟨k, -, rfl⟩ | ⟨i, rest, hw, ho, he⟩ | ⟨-, -, rfl⟩
  · left; simp
  · rcases he.maxvol with hm | ⟨v, rfl, hm⟩
    · left; simpa using hm
    · exact .inr ⟨hw, v, rest, ho, hm⟩
  · left; simp

end Sys2Proof.Machine

namespace Sys2Proof.Proofs

open Sys2Proof.Machine

/-- Settles O40: R120's whole next state is the queried state with the structural check as the result; a named query has
the same effect as the QUERY of its opcode and register, and so the same issue. -/
theorem queryProtocolRuns : Obligations.QueryProtocolRuns := by
  refine ⟨fun q r f rest s ok hw hrx hok => ?anyReply, fun s => ⟨rfl, rfl, rfl, rfl⟩⟩
  case anyReply =>
    have hok' : replyOk f = ok := (replyOk_eq_decide f).trans hok.symm
    rw [exec_query_answered (q := q) (r := r) hw hrx rfl, State.queried_eq hok', hok']
    rfl

/-- Settles O42: accessor and query leave the same queried state; they differ in the result alone. -/
theorem accessorsReturnRegister : Obligations.AccessorsReturnRegister := by
  intro f rest s ok hw hrx hok
  have hok' : replyOk f = ok := (replyOk_eq_decide f).trans hok.symm
  have hquery {i : Instr} {q : Byte} {r : CacheReg} (hi : effectOf i s = runQuery q r (.query r) s) :
      exec i s = .next ((s.queried q r f rest).ret (.ok ok)) := hok' ▸ exec_query_answered hw hrx hi
  refine ⟨⟨_, exec_accessor_answered hw hrx rfl, hquery rfl, ?status, rfl, ?_, ?_, ?_⟩,
    ⟨_, exec_accessor_answered hw hrx rfl, hquery rfl, ?volume, rfl, ?_, ?_, ?_⟩,
    ⟨_, exec_accessor_answered hw hrx rfl, hquery rfl, ?numtracks, rfl, ?_, ?_, ?_⟩,
    ⟨_, exec_accessor_answered hw hrx rfl, hquery rfl, ?curtrack, rfl, ?_, ?_, ?_⟩⟩
  case status => exact State.queried_status hok' _ rest s
  case volume => exact State.queried_volume hok' _ rest s
  case numtracks => exact State.queried_numtracks hok' _ rest s
  case curtrack => exact State.queried_curtrack hok' _ rest s
  all_goals simp [hw]

/-- Settles O43: the volume query runs on the state with the ceiling stored, and the comparison is of that ceiling with
the volume the query left. -/
theorem setmaxvolQueriesThenLowers : Obligations.SetmaxvolQueriesThenLowers := by
  intro v f rest s ok m cur hw hrx hok hm hcur
  have hok' : replyOk f = ok := (replyOk_eq_decide f).trans hok.symm
  have hm' : clampCeiling v = m := (clampCeiling_eq v).trans hm.symm
  rw [exec_setmaxvol_answered hw hrx, hm', finish_setMaxVol, State.queried_eq hok',
    if_pos (c := CacheReg.volume = .volume) rfl, ← hcur]
  rfl

/-- Settles O49: of the things a step can do only the effect of a SETMAXVOL touches MAXVOL. -/
theorem onlySetmaxvolChangesMaxvol : Obligations.OnlySetmaxvolChangesMaxvol := by
  intro s t h hne
  rcases step_maxvol h with hsame | ⟨hw, v, rest, ho, hm⟩
  · exact absurd hsame hne
  · exact ⟨hw, v, rest, ho, hm.trans (clampCeiling_eq v)⟩

/-- Settles O22: each known command byte selects the store of one register. -/
theorem decStoresByReplyCommand : Obligations.DecStoresByReplyCommand := by
  intro f s hw hstart hlength hstop
  have hok : replyOk f = true := (replyOk_iff f).mpr ⟨hstart, hlength, hstop⟩
  rw [exec_dec_wellFormed hw hok]
  refine ⟨fun hc => ?status, fun hc => ?volume, fun hc => ?numtracks, fun hc => ?curtrack⟩
  case status => rw [State.store_status hc]; rfl
  case volume => rw [State.store_volume hc]; rfl
  case numtracks => rw [State.store_numtracks hc]; rfl
  case curtrack => rw [State.store_curtrack hc]; rfl

/-- Settles O23: with no known command byte nothing is stored. -/
theorem decUnrecognisedChangesNothing : Obligations.DecUnrecognisedChangesNothing := by
  intro f s hw hstart hlength hstop hstatus hvolume hnumtracks hcurtrack
  have hok : replyOk f = true := (replyOk_iff f).mpr ⟨hstart, hlength, hstop⟩
  rw [exec_dec_wellFormed hw hok, State.store_unknown hstatus hvolume hnumtracks hcurtrack]
  rfl

/-- Settles O30: each of the six sends its opcode with a zero parameter, and the six frames are known byte by byte. -/
theorem argumentlessCommandFrames : Obligations.ArgumentlessCommandFrames := by
  intro s hw
  obtain ⟨hnext, hprev, hvolup, hvoldn, hresume, hpause⟩ := wireFrame_argumentless s.cken
  rw [← hnext, ← hprev, ← hvolup, ← hvoldn, ← hresume, ← hpause]
  exact ⟨exec_sends hw rfl, exec_sends hw rfl, exec_sends hw rfl, exec_sends hw rfl, exec_sends hw rfl,
    exec_sends hw rfl⟩

/-- Settles O32: SETVOL's one frame carries the clamped volume, the smaller of two numbers. -/
theorem setvolSendsClampedVolume : Obligations.SetvolSendsClampedVolume := by
  intro v s hw
  refine ⟨fun hceiling => (min_le_right _ _).trans (BitVec.le_def.mp hceiling), ?_⟩
  rw [exec_setvol hw, zext16_clampVolume]
  rfl

/-- Settles O36: the three operations send a zero-extended byte. -/
theorem narrowArgumentsZeroExtended : Obligations.NarrowArgumentsZeroExtended := by
  refine fun s hw => ⟨fun v => ?volume, fun e => exec_sends_narrow hw rfl, fun m => ?mode⟩
  case volume =>
    rw [← clampVolume_eq]
    exact exec_sends_narrow hw rfl
  case mode =>
    cases m with
    | singlePlay | folderRepeat | singleRepeat | random => exact exec_sends_narrow hw rfl

end Sys2Proof.Proofs
end
